-- ==== Sys2Proof/Word.lean ====
section
/-! DEFINITION. The byte of the host port and of the line, and the plainest operations on bytes, vectors and lists. -/

namespace Sys2Proof

/-- A byte: of the host port (R161) or of a character on the line (R1). -/
abbrev Byte := BitVec 8

/-- The 16-bit check value of R5. -/
abbrev Check := BitVec 16

/-- The byte holding a number (its lowest eight bits). -/
def byteOf (n : Nat) : Byte := BitVec.ofNat 8 n

/-- The two bytes of a number, high byte first (10.6). -/
def twoBytes (n : Nat) : List Byte := [byteOf (n / 256), byteOf n]

/-- A flag as a byte: 1 when it holds. -/
def flagByte (b : Bool) : Byte := if b then 1 else 0

/-- The eight bits of a byte, most significant first: the order of the host port (R161) and of the check (R5). -/
def msbFirst (b : Byte) : List Bool :=
  [b.getLsbD 7, b.getLsbD 6, b.getLsbD 5, b.getLsbD 4, b.getLsbD 3, b.getLsbD 2, b.getLsbD 1, b.getLsbD 0]

/-- The number that bits spell, most significant first. -/
def numberOfBits : List Bool → Nat
  | [] => 0
  | b :: bs => (if b then 2 ^ bs.length else 0) + numberOfBits bs

/-- Applies a function to every cell of a vector, by recursion on its list (so that the kernel evaluates it). -/
def mapCells {α β : Type} {n : Nat} (f : α → β) (v : Vector α n) : Vector β n :=
  ⟨⟨v.toArray.toList.map f⟩, by simp⟩

/-- Inserts an element into a list in rising order of `rank`, before those of equal rank. -/
def insertByRank {α : Type} (rank : α → Nat) (x : α) : List α → List α
  | [] => [x]
  | y :: ys => if rank x ≤ rank y then x :: y :: ys else y :: insertByRank rank x ys

/-- A list put in rising order of `rank`, elements of equal rank as they stood. -/
def sortByRank {α : Type} (rank : α → Nat) : List α → List α
  | [] => []
  | x :: xs => insertByRank rank x (sortByRank rank xs)

end Sys2Proof
end

