-- ==== Sys2Proof/Syntax.lean ====
section
/-! DEFINITION. The commands of the part: one constructor for each row of spec/opcode_table.json. -/

namespace Sys2Proof

/-- A command or event that the part takes. The order is the table's. -/
inductive Instr where
  /-- HCS falls (R161). -/
  | hcsFall
  /-- HCS rises (R164); `lrx`: LRX reads 1 at that moment, used only if an executed SOFT RESET takes effect (R166, R20). -/
  | hcsRise (lrx : Bool)
  /-- The host command NOP, 0x00 (R163). -/
  | nop
  /-- The host command READ STATUS, 0x01 (R168). -/
  | readStatus
  /-- The host command SET FIELD, 0x10, with its id and value bytes (R145, R179). -/
  | setField (id : Byte) (value : List Byte)
  /-- The host command GET FIELD, 0x11 (R146). -/
  | getField (id : Byte)
  /-- The host command JOIN, 0x20 (R147 to R149). -/
  | join
  /-- The host command LEAVE, 0x21 (R156). -/
  | leave
  /-- The host command SOFT RESET, 0x2F (R166). -/
  | softReset
  /-- The host command SUBMIT, 0x30, with destination, length byte and payload bytes (R55, R162). -/
  | submit (dest : Byte) (length : Byte) (payload : List Byte)
  /-- The host command CANCEL, 0x31 (R69). -/
  | cancel (handle : Byte)
  /-- The host command QUERY ENTRY, 0x32 (R71). -/
  | queryEntry (handle : Byte)
  /-- The host command READ FRAME, 0x40 (R122). -/
  | readFrame
  /-- The host command FLUSH POOL, 0x41 (R124). -/
  | flushPool
  /-- The host command READ NOTICE, 0x50 (R173). -/
  | readNotice
  /-- The host command READ PEER, 0x60 (R98). -/
  | readPeer (station : Byte)
  /-- The host command READ COUNTERS, 0x70 (R176). -/
  | readCounters
  /-- A command byte that names no command (R165). -/
  | unknownCommand (code : Byte)
  /-- NRESET has been low for 1 µs (R182). -/
  | hardwareReset
  /-- NRESET rises (R182); `lrx`: LRX reads 1 at that moment (R20). -/
  | nresetRelease (lrx : Bool)
  /-- VDD leaves its range (R183). -/
  | vddOutOfRange
  /-- VDD comes back within its range (R183); `lrx`: LRX reads 1 at that moment (R20). -/
  | vddReturn (lrx : Bool)
  /-- VIO leaves its range (R183); `lrx`: as in `hcsRise`. -/
  | vioFall (lrx : Bool)
  /-- VIO comes back within its range (R183). -/
  | vioReturn
  /-- LRX changes from 1 to 0 (R19, R20). -/
  | startBit
  /-- LRX reads 1 at the middle of a start bit (R19). -/
  | startBitGlitch
  /-- A character's stop bit ends: its value, and the stop bit as read (R1, R19). -/
  | characterComplete (value : Byte) (stopBit : Bool)
  /-- LRX reads 1 in HOLDING (R19). -/
  | holdingRelease
  /-- The idle-time event of value 7 (R10, R12). -/
  | idleGapLimit
  /-- The idle-time event of value 2 (R82). -/
  | replyStart
  /-- The idle-time event of value W (R87). -/
  | replyWindowEnd
  /-- The idle-time event of this value at the Access Ladder (R38 to R40). -/
  | slotOpening (idle : Nat)
  /-- The idle-time event of this value at Station Control (R151). -/
  | listeningRoundEnd (idle : Nat)
  /-- 20 bit times have passed after the scheduled end of the oldest character in the echo list (R26). -/
  | echoLoss
  /-- 1 bit time has passed after the last stop bit sent (R23, R25). -/
  | ldeRelease
  /-- The tick base wraps (R17, R18). -/
  | tick
  /-- The silence timer of record `p` expires (R100). -/
  | silenceTimerExpiry (p : Fin 32)
  /-- The pause timer of record `p` expires (R105). -/
  | pauseTimerExpiry (p : Fin 32)
  /-- The beacon timer expires (R111). -/
  | beaconTimerExpiry
  /-- The refresh timer expires (R140). -/
  | refreshTimerExpiry
  /-- The delivery timer expires (R128). -/
  | deliveryTimerExpiry
  /-- LRX has read 1 for a whole bit time in UNARMED (R19). -/
  | receiverArmed
  /-- An edge of HCK: `rising` or falling, and the bit on HDI (R161). -/
  | hckEdge (rising : Bool) (hdi : Bool)
  /-- The start bit of the next character begins on LTX (R23). -/
  | ltxStartBit
  /-- The stop bit of the last character sent ends on LTX (R23). -/
  | lastStopBitEnd
  deriving DecidableEq, Repr

end Sys2Proof
end

