-- ==== Sys2Proof/Decode.lean ====
section
/-! DEFINITION. The command a word spells by the bits of spec/opcode_table.json. The table gives no row any bits
("n_rows_with_fixed": 0), so no word spells one (log entry 28). The bytes of a host command on the port are read and
written in Machine/Operands.lean (readCommand, commandBytes). -/

namespace Sys2Proof

/-- The command that the word `w` of `nbits` bits spells: none, since no row of the table has bits (log entry 28). -/
def decodeTableWord (_nbits _w : Nat) : Option Instr := none

end Sys2Proof
end

