-- ==== Sys2Proof/Config.lean ====
section
/-! DEFINITION. What is fixed in every CF412 (sizes and gaps), and the free choices the spec leaves open. -/

namespace Sys2Proof.Config

/-- Character 1 of every frame (R2). -/
def lead : Byte := 0xA6

/-- The destination that means all stations (00_scope.md, R2). -/
def toAll : Byte := 255

/-- The greatest payload length of a DATA frame (R2, R9). -/
def maxPayload : Nat := 60

/-- The idle-time event past the intra-frame gap limit of 6 (R6, R10). -/
def gapEvent : Nat := 7

/-- The idle time at which LDE is asserted for an ACK (R6, R82). -/
def replyEvent : Nat := 2

/-- The echo loss limit, in bit times after a character's scheduled end (R6, R26). -/
def echoLossLimit : Nat := 20

/-- The bit times of a character (R1). -/
def characterBits : Nat := 10

/-- The most characters the echo list holds (R24). -/
def echoCapacity : Nat := 4

/-- The blocks of the receive pool (R114). -/
def poolBlocks : Nat := 48

/-- The ceiling of informational notices in the queue (R172). -/
def informationalLimit : Nat := 16

/-- The value at which a statistics counter stays (R175). -/
def counterMax : Nat := 65535

/-- The bit times of a tick (R17). -/
def tickLength : Nat := 256

/-- DESIGN CHOICE (log entries 4 and 5): where the spec gives no order among things that happen together, they
are taken in rising order of this rank. The first argument numbers the choice, the second the thing. It has no
body: no proof can see what it is, so a claim holds whatever the order. -/
opaque freeRank : Nat → Nat → Nat

/-- DESIGN CHOICE (log entry 34): whether a good own-marked frame of the own number that survived a collision with the
station's own frame is heard with NUMBER_CLASH, as R50 says, or dropped, as R13, R14, R15 and R49 say. The spec says both and
rules for neither. It has no body: no proof can see which it is, so a claim holds for both. -/
opaque survivorHeard : Bool

end Sys2Proof.Config
end

