-- ==== Sys2Proof/Machine/State.lean ====
section
/-! DEFINITION. Everything the part holds, block by block, and its values after a hardware reset. Plain data. -/

namespace Sys2Proof.Machine

/-! ### Frames (chapter 1) -/

/-- The five frame kinds (R3). -/
inductive FrameKind where
  | data
  | ack
  | pause
  | resume
  | beacon
  deriving DecidableEq, Repr

/-- The causes of a bad frame (R9, R10). -/
inductive BadCause where
  | framing
  | truncated
  | kind
  | length
  | address
  | check
  deriving DecidableEq, Repr

/-- A good frame as the Frame Receiver hands it on (R11); its length is its payload's. -/
structure GoodFrame where
  kind : FrameKind
  /-- The lower four bits of the kind character, 0..15. -/
  modifier : Nat
  dest : Byte
  source : Byte
  seq : Byte
  payload : List Byte
  deriving DecidableEq, Repr

/-- A frame being assembled (R8, R9): the fields taken so far. -/
structure Assembly where
  /-- LDE was asserted when the lead's start bit began (R13). -/
  ownMark : Bool
  /-- Own-marked, and the own frame on the line with it was found COLLIDED, so that the frame, if it ends good, is another
  station's that survived the collision (R49, R50; log entry 34). -/
  collided : Bool
  kind : Option Byte
  dest : Option Byte
  source : Option Byte
  seq : Option Byte
  length : Option Byte
  /-- The payload buffer, in order. -/
  payload : List Byte
  /-- The count of characters still to come, from the length character on. -/
  toCome : Nat
  /-- The running check value. -/
  check : Check
  checkHigh : Option Byte
  deriving DecidableEq, Repr

/-- The assembly states of the Frame Receiver (R7). -/
inductive FrameReceiver where
  | awaitSync
  | inFrame (a : Assembly)
  | draining
  deriving DecidableEq, Repr

/-! ### Line Interface (chapter 2) -/

/-- The receiver's states (R19). UNARMED carries whether LRX has read 1 ever since the reset, so that its whole bit time
at 1 is running; IN_CHARACTER the LDE indication recorded at the start bit and the divisor of the bit time at which the
character is received (R16). -/
inductive Receiver where
  | unarmed (lrxHigh : Bool)
  | armed
  | inCharacter (ldeAtStart : Bool) (divisor : Nat)
  | holding
  deriving DecidableEq, Repr

/-- The transmitter's states (R22, R23). -/
inductive Transmitter where
  | off
  | lead
  | sending
  | trailing
  deriving DecidableEq, Repr

/-- The comparison's states while a frame of the station's own is in progress (R24 to R26). -/
inductive Comparison where
  | opened
  | settledClean
  | collided
  | echoLost
  deriving DecidableEq, Repr

/-- The block that requested the own frame (R22). -/
inductive Requester where
  | transmitQueue
  | replyUnit
  deriving DecidableEq, Repr

/-- The own frame in progress: comparison and requester, present together, with the frame's kind and joining flag
(R22, R27). -/
structure OwnFrame where
  kind : FrameKind
  joining : Bool
  requester : Requester
  comparison : Comparison
  deriving DecidableEq, Repr

/-- The outcomes of an own frame (R27). -/
inductive OwnOutcome where
  | clean
  | collided
  | echoLost
  deriving DecidableEq, Repr

/-- A character sent and not yet echoed (R23): its value, and the bit times since its start bit began. Its scheduled
end is at 10 of them. -/
structure EchoCharacter where
  value : Byte
  elapsed : Nat
  deriving DecidableEq, Repr

/-- The Line Interface (chapter 2's table of state). -/
structure LineInterface where
  /-- The divisor of the bit time in force: for sending, the idle time and the tick base (R16). -/
  divisor : Nat
  /-- The divisor of the bit time at which the next start bit is received (R16). -/
  startDivisor : Nat
  /-- Bit times into the current tick (R17). -/
  tickBase : Nat
  receiver : Receiver
  /-- The idle time in whole bit times (R20). -/
  idle : Nat
  /-- The idle time is counting, rather than held at 0 (R20). -/
  idleCounting : Bool
  transmitter : Transmitter
  /-- LDE is asserted (R23). -/
  lde : Bool
  /-- Bit times since LDE was asserted (LEAD), the start bit of the character in transmission began (SENDING), or the
  last stop bit ended (TRAILING). -/
  bitTimer : Nat
  /-- The character in transmission. -/
  sending : Option Byte
  /-- The characters of the own frame not yet begun. -/
  toSend : List Byte
  /-- The echo list, oldest first (R23, R24). -/
  echo : List EchoCharacter
  own : Option OwnFrame
  deriving DecidableEq, Repr

/-! ### Transmit Queue (chapter 4) -/

/-- The outcomes of a transmit entry (R52). -/
inductive EntryOutcome where
  | sentTaken
  | sentDuplicate
  | sentBroadcast
  | failedNoReply
  | failedCollisions
  | failedWithdrawn
  deriving DecidableEq, Repr

/-- The states of an entry that is not FREE (R54). COMPLETE carries the outcome. -/
inductive EntryState where
  | waiting
  | held
  | onLine
  | awaitingReply
  | complete (outcome : EntryOutcome)
  deriving DecidableEq, Repr

/-- A transmit entry that is not FREE (R52); its length is its payload's. -/
structure Entry where
  state : EntryState
  dest : Byte
  payload : List Byte
  /-- The submission number. -/
  number : BitVec 32
  seq : Option Byte
  attempts : Nat
  collisions : Nat
  deriving DecidableEq, Repr

/-- The pending beacon (R59). -/
inductive PendingBeacon where
  | none
  | joining
  | plain
  deriving DecidableEq, Repr

/-- A congestion announcement (R132). -/
inductive Announcement where
  | pause
  | resume
  deriving DecidableEq, Repr

/-- The frame of the queue's choosing that is on the line or awaits its reply (R52). -/
inductive CurrentFrame where
  | entry (h : Fin 16)
  | announcement (a : Announcement)
  | beacon (joining : Bool)
  deriving DecidableEq, Repr

/-- The Transmit Queue (R52). A FREE entry is `none`. -/
structure TransmitQueue where
  entries : Vector (Option Entry) 16
  submissions : BitVec 32
  broadcastSeq : Byte
  beacon : PendingBeacon
  current : Option CurrentFrame
  deriving DecidableEq, Repr

/-! ### Reply Unit (chapter 5) -/

/-- The result an ACK carries (R3, R80). -/
inductive ReplyResult where
  | taken
  | duplicate
  | full
  deriving DecidableEq, Repr

/-- The receiver's pending reply (R78). -/
structure PendingReply where
  dest : Byte
  seq : Byte
  result : ReplyResult
  /-- Phase SENDING, rather than DECIDED. -/
  sending : Bool
  deriving DecidableEq, Repr

/-- The sender's reply wait (R78). -/
structure ReplyWait where
  handle : Fin 16
  dest : Byte
  seq : Byte
  /-- Phase CANDIDATE, rather than OPEN. -/
  candidate : Bool
  deriving DecidableEq, Repr

/-- The outcomes of a reply wait (R89, R90). -/
inductive ReplyOutcome where
  | taken
  | duplicate
  | full
  | noReply
  deriving DecidableEq, Repr

/-- The Reply Unit (R78). -/
structure ReplyUnit where
  pending : Option PendingReply
  wait : Option ReplyWait
  deriving DecidableEq, Repr

/-! ### Peer Table (chapter 6) -/

/-- A peer record (R97). A timer that is absent is `none`. -/
structure Peer where
  present : Bool
  silence : Option Nat
  paused : Bool
  pauseTimer : Option Nat
  nextSeq : Byte
  lastReceived : Option Byte
  deriving DecidableEq, Repr

/-- The Peer Table (R97, R110). -/
structure PeerTable where
  records : Vector Peer 32
  beaconTimer : Option Nat
  deriving DecidableEq, Repr

/-! ### Receive Pool (chapter 7) -/

/-- A record of the receive pool (R115); its length and blocks follow from its payload, its lane from where it stands. -/
structure Record where
  source : Byte
  broadcast : Bool
  seq : Byte
  payload : List Byte
  watch : Option (Fin 4)
  deriving DecidableEq, Repr

/-- The Receive Pool (chapter 7's table of state). -/
structure ReceivePool where
  urgent : List Record
  normal : List Record
  fill : Nat
  deliveryTimer : Option Nat
  stale : Bool
  deriving DecidableEq, Repr

/-! ### Congestion Monitor (chapter 8) -/

/-- The Congestion Monitor (R132). -/
structure CongestionMonitor where
  congested : Bool
  announced : Bool
  announcement : Option Announcement
  refreshTimer : Option Nat
  highMark : Nat
  lowMark : Nat
  deriving DecidableEq, Repr

/-! ### Station Control (chapter 9) -/

/-- The station states. -/
inductive StationState where
  | unjoined
  | listening
  | announcing
  | active
  | leaving
  | halted
  deriving DecidableEq, Repr

/-- A watch entry (R117); source ANY is `none`. -/
structure Watch where
  enabled : Bool
  source : Option Nat
  value : Byte
  mask : Byte
  deriving DecidableEq, Repr

/-- The four flags of the ATTN mask, and the four causes they mask (R144, R177). -/
structure AttnFlags where
  notices : Bool
  urgent : Bool
  threshold : Bool
  stale : Bool
  deriving DecidableEq, Repr

/-- The configuration record (R144). -/
structure ConfigRecord where
  ownNumber : Nat
  ladderSize : Nat
  divisor : Nat
  slotWidth : Nat
  replyWindow : Nat
  retryLimit : Nat
  collisionLimit : Nat
  highMark : Nat
  lowMark : Nat
  pauseHold : Nat
  presenceTimeout : Nat
  deliveryThreshold : Nat
  deliveryTimeout : Nat
  attnMask : AttnFlags
  watches : Vector Watch 4
  deriving DecidableEq, Repr

/-- Station Control (chapter 9). -/
structure StationControl where
  station : StationState
  config : ConfigRecord
  listeningRound : Option Nat
  deriving DecidableEq, Repr

/-! ### Host Port and Notice Queue (chapter 10) -/

/-- The transaction states (R161). -/
inductive PortState where
  | deselected
  | takingCommand
  | takingParameters
  | answering
  | spent
  | waitingDeselect
  deriving DecidableEq, Repr

/-- The Host Port. -/
structure HostPort where
  port : PortState
  /-- The command byte and the parameter bytes taken so far. -/
  taken : List Byte
  /-- The bits of the byte being taken, first sampled first. -/
  bits : List Bool
  /-- The answer bytes not yet clocked out. -/
  answer : List Byte
  /-- The bits of the first of them already clocked out. -/
  outBits : Nat
  /-- An executed SOFT RESET takes effect at the next rise of HCS (R166). -/
  softResetDue : Bool
  /-- ATTN is asserted, driven low (R177). -/
  attn : Bool
  deriving DecidableEq, Repr

/-- The notice kinds (R171). -/
inductive NoticeKind where
  | sent
  | failed
  | peerFound
  | peerLost
  | peerPaused
  | peerResumed
  | congested
  | relieved
  | joined
  | left
  | halted
  | numberClash
  | ladderMismatch
  deriving DecidableEq, Repr

/-- A notice (R170). -/
structure Notice where
  kind : NoticeKind
  subject : Byte
  detail : Byte
  deriving DecidableEq, Repr

/-- The 14 statistics counters, in the order of R175. -/
structure Counters where
  goodFrames : Nat
  noise : Nat
  badFraming : Nat
  badTruncated : Nat
  badKind : Nat
  badLength : Nat
  badAddress : Nat
  badCheck : Nat
  collisions : Nat
  noReplies : Nat
  fullSent : Nat
  duplicates : Nat
  broadcastDrops : Nat
  noticesLost : Nat
  deriving DecidableEq, Repr

/-- The level of an output pin (R184). -/
inductive PinLevel where
  | low
  | high
  | highImpedance
  deriving DecidableEq, Repr

/-- The input pins and supplies the part reads, and the one output pin that holds a bit (HDO). -/
structure Pins where
  hcsHigh : Bool
  /-- NRESET has been low for 1 µs and is low still (R182). -/
  nresetLow : Bool
  vddOk : Bool
  vioOk : Bool
  hdo : PinLevel
  deriving DecidableEq, Repr

/-- The state of the part, and the queue of the commands that wait. -/
structure State where
  pins : Pins
  lif : LineInterface
  frx : FrameReceiver
  /-- The Access Ladder's last sender; UNKNOWN is `none` (R30). -/
  lastSender : Option Nat
  txq : TransmitQueue
  rpu : ReplyUnit
  ptb : PeerTable
  rxp : ReceivePool
  cgm : CongestionMonitor
  stc : StationControl
  hpt : HostPort
  /-- The notice queue, oldest at the head (R170). -/
  notices : List Notice
  counters : Counters
  /-- MODEL's own: how many free choices of order have been made (log entries 4, 5). -/
  choices : Nat
  /-- MODEL's own: the commands that wait, first in, first out. -/
  pending : List Instr
  deriving DecidableEq, Repr

/-- Why a machine could stop with a fault. The spec gives the part none, and no command of the model raises it. -/
inductive Fault where
  /-- Raised by nothing: the part has no fault (INVENTORY.md, Faults). Safe. -/
  | none
  deriving DecidableEq, Repr

/-- Why a command could have no meaning. -/
inductive Refusal where
  /-- Raised by an arm of exec whose command has no meaning yet. Safe. -/
  | notModelled (mnemonic : String)
  deriving DecidableEq, Repr

/-! ### Values after a hardware reset -/

/-- The configuration record's defaults (R144, R117). -/
def ConfigRecord.defaults : ConfigRecord where
  ownNumber := 0
  ladderSize := 8
  divisor := 13
  slotWidth := 4
  replyWindow := 8
  retryLimit := 4
  collisionLimit := 8
  highMark := 36
  lowMark := 24
  pauseHold := 64
  presenceTimeout := 512
  deliveryThreshold := 1
  deliveryTimeout := 0
  attnMask := { notices := true, urgent := true, threshold := true, stale := true }
  watches := Vector.replicate 4 { enabled := false, source := none, value := 0, mask := 0 }

/-- The Line Interface after a reset (R29), at this bit time. `lrx`: LRX reads 1 at its end; the idle time then counts, and
the receiver's whole bit time at 1 runs (R19, R20). -/
def LineInterface.afterReset (divisor : Nat) (lrx : Bool) : LineInterface where
  divisor := divisor
  startDivisor := divisor
  tickBase := 0
  receiver := .unarmed lrx
  idle := 0
  idleCounting := lrx
  transmitter := .off
  lde := false
  bitTimer := 0
  sending := none
  toSend := []
  echo := []
  own := none

/-- The Transmit Queue after a reset (R77). -/
def TransmitQueue.afterReset : TransmitQueue where
  entries := Vector.replicate 16 none
  submissions := 0
  broadcastSeq := 0
  beacon := .none
  current := none

/-- The Reply Unit after a reset (R78). -/
def ReplyUnit.afterReset : ReplyUnit where
  pending := none
  wait := none

/-- A peer record after a clearing (R97, R113). -/
def Peer.cleared : Peer where
  present := false
  silence := none
  paused := false
  pauseTimer := none
  nextSeq := 0
  lastReceived := none

/-- The Peer Table after a clearing (R113). -/
def PeerTable.cleared : PeerTable where
  records := Vector.replicate 32 Peer.cleared
  beaconTimer := none

/-- The Receive Pool after a reset (R131). -/
def ReceivePool.afterReset : ReceivePool where
  urgent := []
  normal := []
  fill := 0
  deliveryTimer := none
  stale := false

/-- The Congestion Monitor after a reset, with these marks in force (R143). -/
def CongestionMonitor.afterReset (high low : Nat) : CongestionMonitor where
  congested := false
  announced := false
  announcement := none
  refreshTimer := none
  highMark := high
  lowMark := low

/-- The Host Port after a reset: DESELECTED, or WAITING_DESELECT where HCS is low at the release of NRESET (R167). -/
def HostPort.afterReset (hcsHigh : Bool) : HostPort where
  port := if hcsHigh then .deselected else .waitingDeselect
  taken := []
  bits := []
  answer := []
  outBits := 0
  softResetDue := false
  attn := false

/-- The statistics counters at 0 (R175). -/
def Counters.zero : Counters where
  goodFrames := 0
  noise := 0
  badFraming := 0
  badTruncated := 0
  badKind := 0
  badLength := 0
  badAddress := 0
  badCheck := 0
  collisions := 0
  noReplies := 0
  fullSent := 0
  duplicates := 0
  broadcastDrops := 0
  noticesLost := 0

/-- The part right after the release of a hardware reset (R7, R29, R35, R77, R78, R113, R131, R143, R144, R167).
DESIGN CHOICE (log entries 1, 2): the supplies are within range, HCS is high, LRX reads 1. -/
def State.reset : State where
  pins := { hcsHigh := true, nresetLow := false, vddOk := true, vioOk := true, hdo := .highImpedance }
  lif := LineInterface.afterReset ConfigRecord.defaults.divisor true
  frx := .draining
  lastSender := none
  txq := TransmitQueue.afterReset
  rpu := ReplyUnit.afterReset
  ptb := PeerTable.cleared
  rxp := ReceivePool.afterReset
  cgm := CongestionMonitor.afterReset ConfigRecord.defaults.highMark ConfigRecord.defaults.lowMark
  stc := { station := .unjoined, config := ConfigRecord.defaults, listeningRound := none }
  hpt := HostPort.afterReset true
  notices := []
  counters := Counters.zero
  choices := 0
  pending := []

end Sys2Proof.Machine
end

