-- ==== Sys2Proof/Machine/Operands.lean ====
section
/-! DEFINITION. The forms of bytes: frames on the line (chapter 1), the fields of the configuration record (R144),
parameters and answers of host commands (10.6), and the codes of R162, R163, R180 and R181. -/

namespace Sys2Proof.Machine

/-! ### Frames on the line -/

/-- The kind code of a frame (R3). -/
def FrameKind.code : FrameKind → Nat
  | .data => 1
  | .ack => 2
  | .pause => 3
  | .resume => 4
  | .beacon => 5

/-- The frame kind of a kind code; none outside 1..5 (R3, R9). -/
def frameKindOf : Nat → Option FrameKind
  | 1 => some .data
  | 2 => some .ack
  | 3 => some .pause
  | 4 => some .resume
  | 5 => some .beacon
  | _ => none

/-- The kind code of a kind character: its upper four bits (R2). -/
def kindCode (c : Byte) : Nat := c.toNat / 16

/-- The modifier of a kind character: its lower four bits (R2). -/
def modifierOf (c : Byte) : Nat := c.toNat % 16

/-- The check register after one data bit (R5, step 3). -/
def checkBit (r : Check) (d : Bool) : Check :=
  if (r.getLsbD 15) != d then (r <<< 1) ^^^ 0x1021 else r <<< 1

/-- The check register after one byte, most significant bit first (R5, step 2). -/
def checkByte (r : Check) (b : Byte) : Check := (msbFirst b).foldl checkBit r

/-- The check register before the first byte (R5, step 1). -/
def checkStart : Check := 0xFFFF

/-- The check value of bytes in frame order (R5). -/
def checkOf (bs : List Byte) : Check := bs.foldl checkByte checkStart

/-- The frame of R2 with its check by R5: lead, kind and modifier, destination, source, sequence, length, payload, check. -/
def frameBytes (kind : FrameKind) (modifier : Nat) (dest source seq : Byte) (payload : List Byte) : List Byte :=
  let body := [byteOf (kind.code * 16 + modifier), dest, source, seq, byteOf payload.length] ++ payload
  [Config.lead] ++ body ++ [byteOf ((checkOf body).toNat / 256), byteOf (checkOf body).toNat]

/-- The modifier an ACK carries (R3). -/
def ReplyResult.modifier : ReplyResult → Nat
  | .taken => 1
  | .duplicate => 2
  | .full => 3

/-! ### Fields of the configuration record -/

/-- The fields of R144. -/
inductive FieldId where
  | ownNumber
  | ladderSize
  | divisor
  | slotWidth
  | replyWindow
  | retryLimit
  | collisionLimit
  | highMark
  | lowMark
  | pauseHold
  | presenceTimeout
  | deliveryThreshold
  | deliveryTimeout
  | attnMask
  | watch (i : Fin 4)
  deriving DecidableEq, Repr

/-- The field an id names; ids 0x00, 0x0F and 0x14..0xFF name none (R144). -/
def fieldOfId (id : Byte) : Option FieldId :=
  match id.toNat with
  | 0x01 => some .ownNumber
  | 0x02 => some .ladderSize
  | 0x03 => some .divisor
  | 0x04 => some .slotWidth
  | 0x05 => some .replyWindow
  | 0x06 => some .retryLimit
  | 0x07 => some .collisionLimit
  | 0x08 => some .highMark
  | 0x09 => some .lowMark
  | 0x0A => some .pauseHold
  | 0x0B => some .presenceTimeout
  | 0x0C => some .deliveryThreshold
  | 0x0D => some .deliveryTimeout
  | 0x0E => some .attnMask
  | 0x10 => some (.watch 0)
  | 0x11 => some (.watch 1)
  | 0x12 => some (.watch 2)
  | 0x13 => some (.watch 3)
  | _ => none

/-- The value bytes of a field (R144). -/
def FieldId.bytes : FieldId → Nat
  | .divisor => 2
  | .pauseHold => 2
  | .presenceTimeout => 2
  | .watch _ => 4
  | _ => 1

/-- The value bytes that follow an id in SET FIELD; none for an id that names no field (R162). -/
def valueBytes (id : Byte) : Nat :=
  match fieldOfId id with
  | some f => f.bytes
  | none => 0

/-- The whole number that bytes make, high byte first (R179). -/
def numberOfBytes (bs : List Byte) : Nat := bs.foldl (fun n b => n * 256 + b.toNat) 0

/-- The ATTN mask of its byte; bits 4..7 are ignored (R179). -/
def attnMaskOf (b : Byte) : AttnFlags where
  notices := b.getLsbD 0
  urgent := b.getLsbD 1
  threshold := b.getLsbD 2
  stale := b.getLsbD 3

/-- The number of four flags, bit 0 notices to bit 3 stale (R179, R180). -/
def AttnFlags.number (f : AttnFlags) : Nat :=
  numberOfBits [f.stale, f.threshold, f.urgent, f.notices]

/-- The source of a watch entry's byte 2: 0xFF is ANY, 0..31 a station (R179); the outer none is out of range. -/
def watchSourceOf (b : Byte) : Option (Option Nat) :=
  if b = 255 then some none else if b.toNat ≤ 31 then some (some b.toNat) else none

/-- The watch entry of its four bytes, or none where a part is out of range (R145, R179). -/
def watchOf : List Byte → Option Watch
  | [e, s, v, m] =>
    if e.toNat ≤ 1 then
      (watchSourceOf s).map fun src => { enabled := e = 1, source := src, value := v, mask := m }
    else none
  | _ => none

/-- The number that bytes make, when it lies in `lo`..`hi`. -/
def inRange (lo hi : Nat) (bs : List Byte) : Option Nat :=
  if lo ≤ numberOfBytes bs ∧ numberOfBytes bs ≤ hi then some (numberOfBytes bs) else none

/-- The record with a field replaced by the value these bytes give, or none where the value is out of the field's
range (R144, R145, R179). -/
def writeField (c : ConfigRecord) (f : FieldId) (v : List Byte) : Option ConfigRecord :=
  match f with
  | .ownNumber => (inRange 0 31 v).map fun n => { c with ownNumber := n }
  | .ladderSize => (inRange 2 32 v).map fun n => { c with ladderSize := n }
  | .divisor => (inRange 1 4095 v).map fun n => { c with divisor := n }
  | .slotWidth => (inRange 2 15 v).map fun n => { c with slotWidth := n }
  | .replyWindow => (inRange 4 24 v).map fun n => { c with replyWindow := n }
  | .retryLimit => (inRange 1 15 v).map fun n => { c with retryLimit := n }
  | .collisionLimit => (inRange 1 15 v).map fun n => { c with collisionLimit := n }
  | .highMark => (inRange 2 48 v).map fun n => { c with highMark := n }
  | .lowMark => (inRange 1 47 v).map fun n => { c with lowMark := n }
  | .pauseHold => (inRange 4 4095 v).map fun n => { c with pauseHold := n }
  | .presenceTimeout => (inRange 8 4095 v).map fun n => { c with presenceTimeout := n }
  | .deliveryThreshold => (inRange 1 48 v).map fun n => { c with deliveryThreshold := n }
  | .deliveryTimeout => (inRange 0 255 v).map fun n => { c with deliveryTimeout := n }
  | .attnMask => some { c with attnMask := attnMaskOf (v.headD 0) }
  | .watch i => (watchOf v).map fun w => { c with watches := c.watches.set i w }

/-- A watch entry in the form in which SET FIELD takes it (R179). -/
def watchBytes (w : Watch) : List Byte :=
  [flagByte w.enabled, (match w.source with | none => 255 | some n => byteOf n), w.value, w.mask]

/-- A field's value in the form in which SET FIELD takes it (R146, R179). -/
def readField (c : ConfigRecord) : FieldId → List Byte
  | .ownNumber => [byteOf c.ownNumber]
  | .ladderSize => [byteOf c.ladderSize]
  | .divisor => twoBytes c.divisor
  | .slotWidth => [byteOf c.slotWidth]
  | .replyWindow => [byteOf c.replyWindow]
  | .retryLimit => [byteOf c.retryLimit]
  | .collisionLimit => [byteOf c.collisionLimit]
  | .highMark => [byteOf c.highMark]
  | .lowMark => [byteOf c.lowMark]
  | .pauseHold => twoBytes c.pauseHold
  | .presenceTimeout => twoBytes c.presenceTimeout
  | .deliveryThreshold => [byteOf c.deliveryThreshold]
  | .deliveryTimeout => [byteOf c.deliveryTimeout]
  | .attnMask => [byteOf c.attnMask.number]
  | .watch i => watchBytes c.watches[i]

/-! ### Host commands -/

/-- A host command with its parameters, as its bytes on the port name it (R162, R165). -/
inductive HostCommand where
  | nop
  | readStatus
  | setField (id : Byte) (value : List Byte)
  | getField (id : Byte)
  | join
  | leave
  | softReset
  | submit (dest length : Byte) (payload : List Byte)
  | cancel (handle : Byte)
  | queryEntry (handle : Byte)
  | readFrame
  | flushPool
  | readNotice
  | readPeer (station : Byte)
  | readCounters
  | unknown (code : Byte)
  deriving DecidableEq, Repr

/-- A command byte names a command of R162's table. -/
def isCommandCode (code : Byte) : Bool :=
  [0x00, 0x01, 0x10, 0x11, 0x20, 0x21, 0x2F, 0x30, 0x31, 0x32, 0x40, 0x41, 0x50, 0x60, 0x70].contains code.toNat

/-- The payload bytes that follow a SUBMIT's length byte: that many, or none above 60 (R162). -/
def payloadBytes (length : Byte) : Nat := if length.toNat ≤ Config.maxPayload then length.toNat else 0

/-- The parameters have the number of bytes the command takes (R162), and an unknown command's byte names none (R165). -/
def HostCommand.wellFormed : HostCommand → Bool
  | .setField id value => value.length = valueBytes id
  | .submit _ length payload => payload.length = payloadBytes length
  | .unknown code => !isCommandCode code
  | _ => true

/-- The bytes of a command on the port: the command byte, then its parameter bytes (R162, R179). -/
def commandBytes : HostCommand → List Byte
  | .nop => [0x00]
  | .readStatus => [0x01]
  | .setField id value => [0x10, id] ++ value
  | .getField id => [0x11, id]
  | .join => [0x20]
  | .leave => [0x21]
  | .softReset => [0x2F]
  | .submit dest length payload => [0x30, dest, length] ++ payload
  | .cancel handle => [0x31, handle]
  | .queryEntry handle => [0x32, handle]
  | .readFrame => [0x40]
  | .flushPool => [0x41]
  | .readNotice => [0x50]
  | .readPeer station => [0x60, station]
  | .readCounters => [0x70]
  | .unknown code => [code]

/-- The command that the bytes taken spell, once they are complete; none while more are to come (R162). -/
def readCommand : List Byte → Option HostCommand
  | [] => none
  | code :: ps =>
    match code.toNat, ps with
    | 0x00, [] => some .nop
    | 0x01, [] => some .readStatus
    | 0x10, id :: v => if v.length = valueBytes id then some (.setField id v) else none
    | 0x11, [id] => some (.getField id)
    | 0x20, [] => some .join
    | 0x21, [] => some .leave
    | 0x2F, [] => some .softReset
    | 0x30, d :: l :: p => if p.length = payloadBytes l then some (.submit d l p) else none
    | 0x31, [h] => some (.cancel h)
    | 0x32, [h] => some (.queryEntry h)
    | 0x40, [] => some .readFrame
    | 0x41, [] => some .flushPool
    | 0x50, [] => some .readNotice
    | 0x60, [p] => some (.readPeer p)
    | 0x70, [] => some .readCounters
    | _, [] => if isCommandCode code then none else some (.unknown code)
    | _, _ => none

/-- The bits of bytes on the port, most significant first (R161). -/
def bitsOfBytes (bs : List Byte) : List Bool := bs.flatMap msbFirst

/-! ### Answers -/

/-- The answer codes of R163. -/
inductive AnswerCode where
  | done
  | empty
  | queueFull
  | badParam
  | wrongState
  | noSuch
  | tooLate
  | invalidConfig
  | unknownCommand
  deriving DecidableEq, Repr

/-- The byte of an answer code (R163). -/
def AnswerCode.byte : AnswerCode → Byte
  | .done => 0x00
  | .empty => 0x01
  | .queueFull => 0x02
  | .badParam => 0x03
  | .wrongState => 0x04
  | .noSuch => 0x05
  | .tooLate => 0x06
  | .invalidConfig => 0x07
  | .unknownCommand => 0x08

/-- An answer that is a code alone (R163). -/
def answerOf (code : AnswerCode) : List Byte := [code.byte]

/-- The answer DONE with its data (R163). -/
def doneWith (data : List Byte) : List Byte := AnswerCode.done.byte :: data

/-- The station state codes of R180. -/
def StationState.code : StationState → Nat
  | .unjoined => 0
  | .listening => 1
  | .announcing => 2
  | .active => 3
  | .leaving => 4
  | .halted => 5

/-- The entry state codes of R180. -/
def EntryState.code : EntryState → Nat
  | .waiting => 1
  | .held => 2
  | .onLine => 3
  | .awaitingReply => 4
  | .complete _ => 5

/-- An optional byte as two: whether it is present, then its value or 0 (R180). -/
def optionalByte : Option Byte → List Byte
  | none => [0, 0]
  | some b => [1, b]

/-- A timer's two bytes, 0 when it is absent (R180). -/
def timerBytes (t : Option Nat) : List Byte := twoBytes (t.getD 0)

/-- The answer data of QUERY ENTRY (R71, R180). -/
def entryBytes (e : Entry) : List Byte :=
  [byteOf e.state.code, e.dest] ++ optionalByte e.seq ++ [byteOf e.attempts, byteOf e.collisions]

/-- The answer data of READ PEER (R98, R180). -/
def peerBytes (p : Peer) : List Byte :=
  [flagByte p.present] ++ timerBytes p.silence ++ [flagByte p.paused] ++ timerBytes p.pauseTimer ++ [p.nextSeq]
    ++ optionalByte p.lastReceived

/-- The answer data of READ FRAME for a record taken from URGENT or NORMAL (R122, R180). -/
def recordBytes (urgent : Bool) (r : Record) : List Byte :=
  [flagByte urgent, r.source, flagByte r.broadcast, r.seq,
    (match r.watch with | none => 255 | some i => byteOf i.val), byteOf r.payload.length] ++ r.payload

/-- The 14 counts in the order of R175. -/
def Counters.values (c : Counters) : List Nat :=
  [c.goodFrames, c.noise, c.badFraming, c.badTruncated, c.badKind, c.badLength, c.badAddress, c.badCheck,
    c.collisions, c.noReplies, c.fullSent, c.duplicates, c.broadcastDrops, c.noticesLost]

/-- The answer data of READ COUNTERS (R176, R180). -/
def counterBytes (c : Counters) : List Byte := c.values.flatMap twoBytes

/-! ### Notices -/

/-- The codes of the notice kinds (R181). -/
def NoticeKind.code : NoticeKind → Nat
  | .sent => 0x01
  | .failed => 0x02
  | .peerFound => 0x10
  | .peerLost => 0x11
  | .peerPaused => 0x12
  | .peerResumed => 0x13
  | .congested => 0x20
  | .relieved => 0x21
  | .joined => 0x30
  | .left => 0x31
  | .halted => 0x32
  | .numberClash => 0x40
  | .ladderMismatch => 0x41

/-- SENT and FAILED are completion notices, every other kind informational (R170). -/
def NoticeKind.isCompletion : NoticeKind → Bool
  | .sent => true
  | .failed => true
  | _ => false

/-- The answer data of READ NOTICE (R173, R181). -/
def noticeBytes (n : Notice) : List Byte := [byteOf n.kind.code, n.subject, n.detail]

/-- The completion notice of an entry's outcome (R72, R181). -/
def completionNotice (h : Fin 16) (o : EntryOutcome) : Notice :=
  let subject := byteOf h.val
  match o with
  | .sentTaken => { kind := .sent, subject, detail := 1 }
  | .sentDuplicate => { kind := .sent, subject, detail := 2 }
  | .sentBroadcast => { kind := .sent, subject, detail := 3 }
  | .failedNoReply => { kind := .failed, subject, detail := 1 }
  | .failedCollisions => { kind := .failed, subject, detail := 2 }
  | .failedWithdrawn => { kind := .failed, subject, detail := 3 }

/-- Why a record became paused (R102). -/
inductive PauseCause where
  | pauseFrame
  | fullReply
  deriving DecidableEq, Repr

/-- Why a record became unpaused other than by loss (R104 to R106). -/
inductive ResumeCause where
  | resumeFrame
  | expiry
  | hello
  deriving DecidableEq, Repr

/-- The PEER_PAUSED notice (R171, R181). -/
def pausedNotice (p : Fin 32) : PauseCause → Notice
  | .pauseFrame => { kind := .peerPaused, subject := byteOf p.val, detail := 1 }
  | .fullReply => { kind := .peerPaused, subject := byteOf p.val, detail := 2 }

/-- The PEER_RESUMED notice (R171, R181). -/
def resumedNotice (p : Fin 32) : ResumeCause → Notice
  | .resumeFrame => { kind := .peerResumed, subject := byteOf p.val, detail := 1 }
  | .expiry => { kind := .peerResumed, subject := byteOf p.val, detail := 2 }
  | .hello => { kind := .peerResumed, subject := byteOf p.val, detail := 3 }

/-- A notice with subject `n` and detail 0 (R171). -/
def plainNotice (kind : NoticeKind) (n : Nat) : Notice := { kind, subject := byteOf n, detail := 0 }

end Sys2Proof.Machine
end

