-- ==== Sys2Proof/Machine/Flags.lean ====
section
/-! DEFINITION. The conditions computed from the state: what the station state allows, the ATTN causes and ATTN's
level, the ladder's position and slots, and the blocks of the pool. -/

namespace Sys2Proof.Machine

/-! ### What the part may do -/

/-- The part is out of reset: VDD is within range and NRESET is not held low (R182, R183). -/
def running (s : State) : Bool := s.pins.vddOk && !s.pins.nresetLow

/-- The host port is out of reset and VIO is within range (R183). -/
def portLive (s : State) : Bool := running s && s.pins.vioOk

/-- The five states LISTENING, ANNOUNCING, ACTIVE, LEAVING and HALTED: every one but UNJOINED (R15, R35, R99). -/
def joined (s : State) : Bool := s.stc.station ≠ .unjoined

/-- The four states in which frames are accepted, stored and acknowledged (R79, R82, R120). -/
def receives (s : State) : Bool :=
  match s.stc.station with
  | .listening => true
  | .announcing => true
  | .active => true
  | .leaving => true
  | .unjoined => false
  | .halted => false

/-- The states in which SUBMIT is accepted (R55). -/
def acceptsSubmit (s : State) : Bool :=
  match s.stc.station with
  | .listening => true
  | .announcing => true
  | .active => true
  | .leaving => false
  | .unjoined => false
  | .halted => false

/-- The own number as the source byte of a frame (R4). -/
def ownByte (s : State) : Byte := byteOf s.stc.config.ownNumber

/-- Record `p` is in use: below N and not the own number (R97). -/
def recordInUse (s : State) (p : Fin 32) : Bool :=
  p.val < s.stc.config.ladderSize && p.val ≠ s.stc.config.ownNumber

/-- The record number of a byte that is a station number (R97). -/
def recordOf (b : Byte) : Option (Fin 32) := if h : b.toNat < 32 then some ⟨b.toNat, h⟩ else none

/-- The destination's record is paused; a broadcast or a number above 31 has none (R54, R97). -/
def destPaused (s : State) (dest : Byte) : Bool :=
  match recordOf dest with
  | some p => s.ptb.records[p].paused
  | none => false

/-! ### The ladder -/

/-- The ladder base G0 (R6, R38). -/
def ladderBase (c : ConfigRecord) : Nat := c.replyWindow + 4

/-- The listening round G0 + N·S (R148). -/
def listeningRound (c : ConfigRecord) : Nat := ladderBase c + c.ladderSize * c.slotWidth

/-- The own position: (own − last − 1) mod N, or the own number while last sender is UNKNOWN (R37). -/
def ladderPosition (c : ConfigRecord) (lastSender : Option Nat) : Nat :=
  match lastSender with
  | none => c.ownNumber
  | some last => (((c.ownNumber : Int) - last - 1) % (c.ladderSize : Int)).toNat

/-- The idle time is one of the openings G0 + p·S + m·N·S (R38). -/
def isSlotOpening (c : ConfigRecord) (lastSender : Option Nat) (idle : Nat) : Bool :=
  let first := ladderBase c + ladderPosition c lastSender * c.slotWidth
  first ≤ idle && (idle - first) % (c.ladderSize * c.slotWidth) = 0

/-- The idle time is an opening G0 + p·S + m·N·S of some position p: one of G0 + j·S (R38). -/
def isLadderTime (c : ConfigRecord) (idle : Nat) : Bool :=
  ladderBase c ≤ idle && (idle - ladderBase c) % c.slotWidth = 0

/-! ### The pool -/

/-- The blocks a frame of this length takes (R80, R114). -/
def blocksFor (length : Nat) : Nat := if length ≤ 32 then 1 else 2

/-- The blocks of a record (R115). -/
def Record.blocks (r : Record) : Nat := blocksFor r.payload.length

/-- The frame fits: the blocks it needs are no more than the free blocks (R114). -/
def fits (p : ReceivePool) (length : Nat) : Bool := p.fill + blocksFor length ≤ Config.poolBlocks

/-! ### ATTN -/

/-- The four ATTN causes, whether masked or not (R126, R177). -/
def attnCauses (s : State) : AttnFlags where
  notices := !s.notices.isEmpty
  urgent := !s.rxp.urgent.isEmpty
  threshold := s.stc.config.deliveryThreshold ≤ s.rxp.normal.length
  stale := s.rxp.stale

/-- At least one flag is on in both. -/
def AttnFlags.meets (a b : AttnFlags) : Bool :=
  (a.notices && b.notices) || (a.urgent && b.urgent) || (a.threshold && b.threshold) || (a.stale && b.stale)

/-- The level ATTN has to have: asserted while a cause with its mask flag on holds (R177); released in reset and while
VIO is out of range (R183, R184). -/
def attnLevel (s : State) : Bool := portLive s && (attnCauses s).meets s.stc.config.attnMask

/-! ### Notices and entries -/

/-- The informational notices in the queue (R170, R172). -/
def informationalCount (ns : List Notice) : Nat := (ns.filter fun n => !n.kind.isCompletion).length

/-- An entry is in flight: ON_LINE or AWAITING_REPLY (R156). -/
def EntryState.inFlight : EntryState → Bool
  | .onLine => true
  | .awaitingReply => true
  | _ => false

/-- An entry waits: WAITING or HELD (R69, R75). -/
def EntryState.isQueued : EntryState → Bool
  | .waiting => true
  | .held => true
  | _ => false

/-- An entry is COMPLETE (R54). -/
def EntryState.isComplete : EntryState → Bool
  | .complete _ => true
  | _ => false

/-- The 16 handles, lowest first. -/
def allHandles : List (Fin 16) := [0, 1, 2, 3, 4, 5, 6, 7, 8, 9, 10, 11, 12, 13, 14, 15]

/-- The 32 record numbers, lowest first. -/
def allRecords : List (Fin 32) :=
  [0, 1, 2, 3, 4, 5, 6, 7, 8, 9, 10, 11, 12, 13, 14, 15,
    16, 17, 18, 19, 20, 21, 22, 23, 24, 25, 26, 27, 28, 29, 30, 31]

/-- The entry of this handle is in a state with this property. -/
def entryIs (q : TransmitQueue) (test : EntryState → Bool) (h : Fin 16) : Bool :=
  match q.entries[h] with
  | some e => test e.state
  | none => false

/-- Some entry is in flight (R156). -/
def anyInFlight (q : TransmitQueue) : Bool := allHandles.any (entryIs q EntryState.inFlight)

/-- The entries that are FREE (R168). -/
def freeCount (q : TransmitQueue) : Nat := (allHandles.filter fun h => q.entries[h].isNone).length

/-- An entry's age: the submission counter minus its submission number (R53). -/
def entryAge (q : TransmitQueue) (e : Entry) : Nat := (q.submissions - e.number).toNat

/-- The age of the entry of this handle; 0 for a FREE one. -/
def handleAge (q : TransmitQueue) (h : Fin 16) : Nat :=
  match q.entries[h] with
  | some e => entryAge q e
  | none => 0

/-! ### Output pins -/

/-- The level of LDE (R184): it is asserted high. -/
def ldePin (s : State) : PinLevel :=
  if !s.pins.vddOk then .highImpedance else if s.lif.lde then .high else .low

/-- The bit of a character on the line at this many whole bit times after its start bit began (R1): start bit 0,
eight data bits least significant first, stop bit 1. -/
def lineBit (c : Byte) (at_ : Nat) : Bool :=
  if at_ = 0 then false else if at_ ≤ 8 then c.getLsbD (at_ - 1) else true

/-- The level of LTX (R23, R184): the character in transmission, and 1 at rest. -/
def ltxPin (s : State) : PinLevel :=
  if !s.pins.vddOk then .highImpedance
  else match s.lif.transmitter, s.lif.sending with
    | .sending, some c => if lineBit c s.lif.bitTimer then .high else .low
    | _, _ => .high

/-- The level of ATTN (R177, R183, R184): driven low while asserted, else at high impedance. -/
def attnPin (s : State) : PinLevel := if s.hpt.attn then .low else .highImpedance

/-- The level of HDO (R161, R183, R184). -/
def hdoPin (s : State) : PinLevel := if portLive s then s.pins.hdo else .highImpedance

end Sys2Proof.Machine
end

