-- ==== Sys2Proof/Machine/Ops.lean ====
section
/-! DEFINITION. The operations every block shares: counters, notices, slow timers, the free order of things that happen
together, the bit time, ATTN's level, and the resets. -/

namespace Sys2Proof.Machine

/-! ### Counters (R175) -/

/-- One more, staying at 65535 (R175). -/
def countUp (n : Nat) : Nat := if n < Config.counterMax then n + 1 else n

/-- Counts a bad frame by its cause (R9, R10, R175). -/
def Counters.countBad (c : Counters) : BadCause → Counters
  | .framing => { c with badFraming := countUp c.badFraming }
  | .truncated => { c with badTruncated := countUp c.badTruncated }
  | .kind => { c with badKind := countUp c.badKind }
  | .length => { c with badLength := countUp c.badLength }
  | .address => { c with badAddress := countUp c.badAddress }
  | .check => { c with badCheck := countUp c.badCheck }

/-! ### The notice queue (R172) -/

/-- Offers a notice: a completion notice is admitted in every case, an informational one while fewer than 16 of them
are queued; beyond that it is dropped and counted as lost (R172). -/
def offerNotice (n : Notice) (s : State) : State :=
  if n.kind.isCompletion || informationalCount s.notices < Config.informationalLimit then
    { s with notices := s.notices ++ [n] }
  else { s with counters := { s.counters with noticesLost := countUp s.counters.noticesLost } }

/-! ### Slow timers (R18) -/

/-- A timer after a tick event: one less, and stopped by the tick that brings it to 0 (R18). -/
def timerAfterTick : Option Nat → Option Nat
  | none => none
  | some n => if n ≤ 1 then none else some (n - 1)

/-- The tick event brings the timer to 0: its expiry (R18). -/
def timerExpires : Option Nat → Bool
  | none => false
  | some n => n ≤ 1

/-! ### The free order (log entries 4, 5) -/

/-- Puts things that happen together in an order the spec leaves open, and counts the choice. Fewer than two need none. -/
def freeOrder {α : Type} (key : α → Nat) (xs : List α) (s : State) : List α × State :=
  if xs.length < 2 then (xs, s)
  else (sortByRank (fun x => Config.freeRank s.choices (key x)) xs, { s with choices := s.choices + 1 })

/-! ### ATTN (R178) -/

/-- ATTN takes the level its causes and the mask give, in the event that changed them (R178). -/
def settleAttn (s : State) : State := { s with hpt := { s.hpt with attn := attnLevel s } }

/-! ### Bit time and idle time (R16, R20, R21) -/

/-- At a bit-time boundary the Line Interface takes the record's bit time, unless an own frame is in progress (R16). -/
def takeBitTime (s : State) : State :=
  if s.lif.own.isNone then
    { s with lif := { s.lif with divisor := s.stc.config.divisor, startDivisor := s.stc.config.divisor } }
  else s

/-- The Line Interface as SET FIELD of the divisor leaves it: the next start bit is received at the new bit time, unless an
own frame is on the line (R16). The rest waits for a boundary. -/
def LineInterface.withNewDivisor (l : LineInterface) (divisor : Nat) : LineInterface :=
  if l.own.isNone then { l with startDivisor := divisor } else l

/-- The idle-time event of value `k` can be raised: the idle time counts, and has not passed `k` (R21). -/
def idleReaches (k : Nat) (s : State) : Bool :=
  running s && s.lif.idleCounting && 1 ≤ k && s.lif.idle ≤ k

/-- The idle time reaches `k` (R20, R21). Where it was below, a bit-time boundary has passed (R16; log entry 23). -/
def setIdle (k : Nat) (s : State) : State :=
  let s := if s.lif.idle < k then takeBitTime s else s
  { s with lif := { s.lif with idle := k } }

/-! ### Resets (R160, R166, R167, R182) -/

/-- Every block at its reset values, with this record and these marks in force (R160). The pins and the model's own
fields stay. `lrx`: LRX reads 1 at the end of the reset (R20). -/
def resetBlocks (c : ConfigRecord) (high low : Nat) (lrx : Bool) (s : State) : State where
  pins := { s.pins with hdo := .highImpedance }
  lif := LineInterface.afterReset c.divisor lrx
  frx := .draining
  lastSender := none
  txq := TransmitQueue.afterReset
  rpu := ReplyUnit.afterReset
  ptb := PeerTable.cleared
  rxp := ReceivePool.afterReset
  cgm := CongestionMonitor.afterReset high low
  stc := { station := .unjoined, config := c, listeningRound := none }
  hpt := HostPort.afterReset s.pins.hcsHigh
  notices := []
  counters := Counters.zero
  choices := s.choices
  pending := s.pending

/-- The level LRX reads at a reset: 1 in ARMED and where it has read 1 since the last reset, 0 in HOLDING (R19), elsewhere as
the event says (log entry 2). -/
def lrxNow (s : State) (lrx : Bool) : Bool :=
  match s.lif.receiver with
  | .armed => true
  | .holding => false
  | .unarmed lrxHigh => lrxHigh || lrx
  | .inCharacter _ _ => lrx

/-- The soft reset: the record and the marks in force are kept (R160, R166, R143). -/
def softReset (lrx : Bool) (s : State) : State :=
  resetBlocks s.stc.config s.cgm.highMark s.cgm.lowMark (lrxNow s lrx) s

/-- The hardware reset: the record and the marks return to their defaults (R160, R182). -/
def hardReset (lrx : Bool) (s : State) : State :=
  resetBlocks ConfigRecord.defaults ConfigRecord.defaults.highMark ConfigRecord.defaults.lowMark lrx s

/-- The release of a hardware reset: the blocks begin from their reset values, the idle time and the tick base at 0, the
port according to HCS (R182). -/
def releaseReset (lrx : Bool) (s : State) : State := hardReset lrx s

end Sys2Proof.Machine
end

