-- ==== Sys2Proof/Machine/Monitor.lean ====
section
/-! DEFINITION. The Congestion Monitor's part of every event (chapter 8). -/

namespace Sys2Proof.Machine

/-- The monitor replaced. -/
def setMonitor (m : CongestionMonitor) (s : State) : State := { s with cgm := m }

/-- The load value of the refresh timer: max(2, pause hold / 2) (R140). -/
def refreshLoad (c : ConfigRecord) : Nat := max 2 (c.pauseHold / 2)

/-- The station is ACTIVE. -/
def isActive (s : State) : Bool := s.stc.station = .active

/-- The monitor as it enters CONGESTED (R134). -/
def monitorOnset (active : Bool) (refresh : Nat) (m : CongestionMonitor) : CongestionMonitor :=
  match m.announcement with
  | some .resume => { m with congested := true, announcement := none, refreshTimer := some refresh }
  | some .pause => { m with congested := true }
  | none => { m with congested := true, announcement := if active then some .pause else none }

/-- The monitor as it enters NORMAL (R135). -/
def monitorRelief (active : Bool) (m : CongestionMonitor) : CongestionMonitor :=
  let kept := if m.announcement = some .pause then none else m.announcement
  { m with congested := false, refreshTimer := none,
           announcement := if m.announced && active then some .resume else kept }

/-- The monitor judges the fill against the marks in force (R133 to R135), with its notice. -/
def judgeFill (s : State) : State :=
  if s.cgm.congested then
    if s.rxp.fill ≤ s.cgm.lowMark then
      offerNotice (plainNotice .relieved s.rxp.fill) (setMonitor (monitorRelief (isActive s) s.cgm) s)
    else s
  else if s.cgm.highMark ≤ s.rxp.fill then
    offerNotice (plainNotice .congested s.rxp.fill) (setMonitor (monitorOnset (isActive s) (refreshLoad s.stc.config) s.cgm) s)
  else s

/-- The monitor after a PAUSE ended CLEAN in ACTIVE (R137). -/
def monitorPauseClean (refresh : Nat) (m : CongestionMonitor) : CongestionMonitor :=
  if m.congested then
    { m with announced := true, refreshTimer := some refresh,
             announcement := if m.announcement = some .pause then none else m.announcement }
  else { m with announced := true, announcement := some .resume }

/-- The monitor after a RESUME ended CLEAN in ACTIVE (R138). -/
def monitorResumeClean (m : CongestionMonitor) : CongestionMonitor :=
  if m.congested then { m with announced := false, refreshTimer := none, announcement := some .pause }
  else { m with announced := false, refreshTimer := none,
                announcement := if m.announcement = some .resume then none else m.announcement }

/-- The outcome of an own frame at the monitor: only a CLEAN PAUSE or RESUME in ACTIVE acts (R137 to R139). -/
def monitorOutcome (kind : FrameKind) (o : OwnOutcome) (s : State) : State :=
  if isActive s && o = .clean then
    match kind with
    | .pause => setMonitor (monitorPauseClean (refreshLoad s.stc.config) s.cgm) s
    | .resume => setMonitor (monitorResumeClean s.cgm) s
    | .data => s
    | .ack => s
    | .beacon => s
  else s

/-- The expiry of the refresh timer: a renewing PAUSE, if nothing is pending (R140). -/
def refreshExpires (s : State) : State :=
  setMonitor { s.cgm with refreshTimer := none,
                          announcement := if s.cgm.announcement.isNone then some .pause else s.cgm.announcement } s

/-- The station has become ACTIVE: PAUSE becomes pending if CONGESTED (R141). -/
def monitorEntersActive (s : State) : State :=
  if s.cgm.congested then setMonitor { s.cgm with announcement := some .pause } s else s

/-- LEAVE accepted, or entry into HALTED: nothing pending, flag clear, refresh timer stopped (R142). -/
def monitorWithdraw (s : State) : State :=
  setMonitor { s.cgm with announcement := none, announced := false, refreshTimer := none } s

/-- JOIN copies H and L into the marks in force, and the fill is judged against them (R133). -/
def monitorJoins (s : State) : State :=
  judgeFill (setMonitor { s.cgm with highMark := s.stc.config.highMark, lowMark := s.stc.config.lowMark } s)

end Sys2Proof.Machine
end

