-- ==== Sys2Proof/Machine/TransmitQueue.lean ====
section
/-! DEFINITION. The Transmit Queue's part of every event (chapter 4): submission, choice, outcomes, pause changes,
completion and withdrawal. -/

namespace Sys2Proof.Machine

/-- An entry replaced. -/
def setEntry (h : Fin 16) (e : Option Entry) (s : State) : State :=
  { s with txq := { s.txq with entries := s.txq.entries.set h e } }

/-- The current frame set or cleared (R52). -/
def setCurrent (c : Option CurrentFrame) (s : State) : State := { s with txq := { s.txq with current := c } }

/-- The pending beacon set (R59). -/
def setBeacon (b : PendingBeacon) (s : State) : State := { s with txq := { s.txq with beacon := b } }

/-! ### Pause changes (R66 to R68) -/

/-- An entry's state after a pause (`paused`) or an unpause of record `p` (R67, R68). -/
def entryAfterPause (p : Fin 32) (paused : Bool) (e : Entry) : Entry :=
  if e.dest = byteOf p.val then
    match e.state, paused with
    | .waiting, true => { e with state := .held }
    | .held, false => { e with state := .waiting }
    | _, _ => e
  else e

/-- A change of record `p` between paused and unpaused acts on the WAITING and HELD unicast entries to it (R66 to R68). -/
def pauseEntries (p : Fin 32) (paused : Bool) (s : State) : State :=
  { s with txq := { s.txq with entries := mapCells (fun e => e.map (entryAfterPause p paused)) s.txq.entries } }

/-! ### Completion and return (R61, R62, R65, R72, R75) -/

/-- An entry becomes COMPLETE with its completion notice, in one event (R72). -/
def completeEntry (h : Fin 16) (e : Entry) (o : EntryOutcome) (s : State) : State :=
  offerNotice (completionNotice h o) (setEntry h (some { e with state := .complete o }) s)

/-- An entry returns to the queue: HELD if its destination's record is paused, else WAITING (R61, R65). -/
def returnEntry (h : Fin 16) (e : Entry) (s : State) : State :=
  setEntry h (some { e with state := if destPaused s e.dest then .held else .waiting }) s

/-- An attempt failed: the entry, its counts raised already, is withdrawn in LEAVING (R75), completes at its limit
(R61, R65), or returns to the queue. -/
def failAttempt (h : Fin 16) (e : Entry) (atLimit : Option EntryOutcome) (s : State) : State :=
  if s.stc.station = .leaving then completeEntry h e .failedWithdrawn s
  else match atLimit with
    | some o => completeEntry h e o s
    | none => returnEntry h e s

/-- The outcome of a count that has reached its limit. -/
def limitOutcome (o : EntryOutcome) (count limit : Nat) : Option EntryOutcome :=
  if limit ≤ count then some o else none

/-! ### The outcome of a frame of the queue's choosing (R59, R61, R62) -/

/-- CLEAN: a broadcast entry completes; a unicast entry awaits its reply, and its reply wait opens (R62, R86). -/
def entryClean (h : Fin 16) (e : Entry) (s : State) : State :=
  if e.dest = Config.toAll then setCurrent none (completeEntry h e .sentBroadcast s)
  else
    let s := setEntry h (some { e with state := .awaitingReply }) s
    { s with rpu := { s.rpu with wait := some { handle := h, dest := e.dest, seq := e.seq.getD 0, candidate := false } } }

/-- The echo outcome of an entry's frame (R61, R62, R75). -/
def entryOutcome (h : Fin 16) (e : Entry) (o : OwnOutcome) (s : State) : State :=
  match o with
  | .clean => entryClean h e s
  | .collided =>
    let e := { e with collisions := e.collisions + 1 }
    failAttempt h e (limitOutcome .failedCollisions e.collisions s.stc.config.collisionLimit) (setCurrent none s)
  | .echoLost => failAttempt h e none (setCurrent none s)

/-- The outcome of the current frame (R59, R61, R62). An outcome finds an entry ON_LINE; one in any other state is left. -/
def currentOutcome (o : OwnOutcome) (s : State) : State :=
  match s.txq.current with
  | none => s
  | some (.announcement _) => setCurrent none s
  | some (.beacon _) =>
    match o with
    | .clean => setBeacon .none (setCurrent none s)
    | .collided => setCurrent none s
    | .echoLost => setCurrent none s
  | some (.entry h) =>
    match s.txq.entries[h] with
    | some e => if e.state = .onLine then entryOutcome h e o s else s
    | none => s

/-! ### The reply outcome (R63 to R65, R75) -/

/-- The reply outcome of an entry in AWAITING_REPLY (R63 to R65, R75). The pause of a FULL outcome has been taken in the
same event, so the entry returns to HELD (R64; log entry 15). -/
def replyOutcome (h : Fin 16) (o : ReplyOutcome) (s : State) : State :=
  match s.txq.entries[h] with
  | none => s
  | some e =>
    if e.state = .awaitingReply then
      let s := setCurrent none s
      match o with
      | .taken => completeEntry h e .sentTaken s
      | .duplicate => completeEntry h e .sentDuplicate s
      | .full => failAttempt h e none s
      | .noReply =>
        let e := { e with attempts := e.attempts + 1 }
        failAttempt h e (limitOutcome .failedNoReply e.attempts s.stc.config.retryLimit) s
    else s

/-! ### Submission (R55, R56) -/

/-- The lowest-numbered FREE entry (R56). -/
def lowestFree (q : TransmitQueue) : Option (Fin 16) := allHandles.find? fun h => q.entries[h].isNone

/-- The destination and length of a SUBMIT are out of range (R55, check 2). -/
def badSubmit (s : State) (dest length : Byte) : Bool :=
  dest.toNat = s.stc.config.ownNumber || (s.stc.config.ladderSize ≤ dest.toNat && dest ≠ Config.toAll)
    || Config.maxPayload < length.toNat

/-- The entry of an accepted SUBMIT (R56). -/
def submittedEntry (s : State) (dest : Byte) (payload : List Byte) : Entry where
  state := if destPaused s dest then .held else .waiting
  dest := dest
  payload := payload
  number := s.txq.submissions
  seq := none
  attempts := 0
  collisions := 0

/-- A SUBMIT that passed its checks takes entry `h` (R56). -/
def takeEntry (h : Fin 16) (dest : Byte) (payload : List Byte) (s : State) : State :=
  let s' := setEntry h (some (submittedEntry s dest payload)) s
  { s' with txq := { s'.txq with submissions := s'.txq.submissions + 1 } }

/-! ### Withdrawal (R75) -/

/-- The WAITING and HELD entries, oldest first (R53, R75). -/
def queuedOldestFirst (q : TransmitQueue) : List (Fin 16) :=
  sortByRank (fun h => 2 ^ 32 - handleAge q h) (allHandles.filter (entryIs q EntryState.isQueued))

/-- One WAITING or HELD entry completes as FAILED_WITHDRAWN (R75). -/
def withdrawEntry (s : State) (h : Fin 16) : State :=
  match s.txq.entries[h] with
  | some e => if e.state.isQueued then completeEntry h e .failedWithdrawn s else s
  | none => s

/-- LEAVE withdraws every WAITING and HELD entry, oldest first (R75). -/
def withdrawAll (s : State) : State := (queuedOldestFirst s.txq).foldl withdrawEntry s

/-! ### Choice at a slot opening (R58, R59) -/

/-- An entry of the queue is unfinished: WAITING, HELD, ON_LINE or AWAITING_REPLY (R58). -/
def EntryState.unfinished (st : EntryState) : Bool := !st.isComplete

/-- Some older entry to this entry's destination is unfinished (R58, item 3). -/
def hasOlder (q : TransmitQueue) (e : Entry) : Bool :=
  allHandles.any fun h =>
    match q.entries[h] with
    | some e' => e'.state.unfinished && e'.dest = e.dest && entryAge q e < entryAge q e'
    | none => false

/-- The entry of this handle may be chosen: WAITING, with no older unfinished entry to its destination (R58, item 3). -/
def isCandidate (q : TransmitQueue) (h : Fin 16) : Bool :=
  match q.entries[h] with
  | some e => e.state = .waiting && !hasOlder q e
  | none => false

/-- The older of the handle found so far and the next one. -/
def olderHandle (q : TransmitQueue) (best : Option (Fin 16)) (h : Fin 16) : Option (Fin 16) :=
  match best with
  | none => some h
  | some b => if handleAge q b < handleAge q h then some h else some b

/-- The oldest candidate (R53, R58). -/
def oldestCandidate (q : TransmitQueue) : Option (Fin 16) :=
  (allHandles.filter (isCandidate q)).foldl (olderHandle q) none

/-- The frame the queue gives at a slot opening, if any (R58, R59). -/
def chooseFrame (s : State) : Option CurrentFrame :=
  if s.txq.current.isSome then none
  else match s.stc.station with
    | .active =>
      match s.cgm.announcement with
      | some a => some (.announcement a)
      | none =>
        if s.txq.beacon = .plain then some (.beacon false)
        else (oldestCandidate s.txq).map CurrentFrame.entry
    | .announcing => if s.txq.beacon = .joining then some (.beacon true) else none
    | _ => none

/-! ### The frame of a choice, and its effects once taken (R60) -/

/-- The sequence an entry's frame carries (R60). -/
def entrySequence (s : State) (e : Entry) : Byte :=
  match e.seq with
  | some q => q
  | none =>
    match recordOf e.dest with
    | some p => s.ptb.records[p].nextSeq
    | none => s.txq.broadcastSeq

/-- The kind of a chosen frame. -/
def chosenKind : CurrentFrame → FrameKind
  | .announcement .pause => .pause
  | .announcement .resume => .resume
  | .beacon _ => .beacon
  | .entry _ => .data

/-- The joining flag of a chosen frame (R22). -/
def chosenJoining : CurrentFrame → Bool
  | .beacon j => j
  | _ => false

/-- The characters of a chosen frame, built as R4 gives. -/
def chosenBytes (s : State) (c : CurrentFrame) : List Byte :=
  match c with
  | .announcement .pause => frameBytes .pause 0 Config.toAll (ownByte s) 0 []
  | .announcement .resume => frameBytes .resume 0 Config.toAll (ownByte s) 0 []
  | .beacon j => frameBytes .beacon (if j then 1 else 0) Config.toAll (ownByte s) 0 []
  | .entry h =>
    match s.txq.entries[h] with
    | some e => frameBytes .data 0 e.dest (ownByte s) (entrySequence s e) e.payload
    | none => []

/-- The counter that gave an entry its first sequence moves on (R60, R108). -/
def advanceSequence (e : Entry) (s : State) : State :=
  match e.seq, recordOf e.dest with
  | some _, _ => s
  | none, some p =>
    let r := s.ptb.records[p]
    { s with ptb := { s.ptb with records := s.ptb.records.set p { r with nextSeq := r.nextSeq + 1 } } }
  | none, none => { s with txq := { s.txq with broadcastSeq := s.txq.broadcastSeq + 1 } }

/-- The effects of a taken request on the queue (R60). -/
def chosenTaken (c : CurrentFrame) (s : State) : State :=
  match c with
  | .entry h =>
    match s.txq.entries[h] with
    | some e =>
      let s' := advanceSequence e (setEntry h (some { e with state := .onLine, seq := some (entrySequence s e) }) s)
      setCurrent (some c) s'
    | none => s
  | _ => setCurrent (some c) s

end Sys2Proof.Machine
end

