-- ==== Sys2Proof/Machine/PeerTable.lean ====
section
/-! DEFINITION. The Peer Table's part of every event (chapter 6). -/

namespace Sys2Proof.Machine

/-- A record replaced. -/
def setPeer (p : Fin 32) (r : Peer) (s : State) : State :=
  { s with ptb := { s.ptb with records := s.ptb.records.set p r } }

/-- Record `p` in a state where the table takes claims (R97, R99, R112). -/
def claimsTaken (s : State) (p : Fin 32) : Bool := joined s && recordInUse s p

/-- The presence refresh: the silence timer is reloaded; an ABSENT peer becomes PRESENT with PEER_FOUND (R99). -/
def refreshPresence (p : Fin 32) (s : State) : State :=
  let r := s.ptb.records[p]
  let s' := setPeer p { r with present := true, silence := some s.stc.config.presenceTimeout } s
  if r.present then s' else offerNotice (plainNotice .peerFound p.val) s'

/-- Record `p` is paused, or its pause timer reloaded if it was paused already (R102, R103). -/
def pausePeer (p : Fin 32) (cause : PauseCause) (s : State) : State :=
  let r := s.ptb.records[p]
  let s' := setPeer p { r with paused := true, pauseTimer := some s.stc.config.pauseHold } s
  if r.paused then s' else offerNotice (pausedNotice p cause) (pauseEntries p true s')

/-- Record `p`, if paused, is unpaused with PEER_RESUMED, and its HELD entries become WAITING (R104 to R106). -/
def resumePeer (p : Fin 32) (cause : ResumeCause) (s : State) : State :=
  let r := s.ptb.records[p]
  if r.paused then
    offerNotice (resumedNotice p cause) (pauseEntries p false (setPeer p { r with paused := false, pauseTimer := none } s))
  else s

/-- A joining beacon clears the last-received sequence and ends any pause (R106). -/
def helloPeer (p : Fin 32) (s : State) : State :=
  resumePeer p .hello (setPeer p { s.ptb.records[p] with lastReceived := none } s)

/-- Peer `p` is lost (R100). -/
def losePeer (p : Fin 32) (s : State) : State :=
  let r := s.ptb.records[p]
  let s' := setPeer p { r with present := false, silence := none, paused := false, pauseTimer := none, lastReceived := none } s
  offerNotice (plainNotice .peerLost p.val) (if r.paused then pauseEntries p false s' else s')

/-- The claims a good frame of this kind makes on its source's record besides presence (R102, R104, R106). -/
def kindClaims (p : Fin 32) (f : GoodFrame) (s : State) : State :=
  match f.kind with
  | .pause => pausePeer p .pauseFrame s
  | .resume => resumePeer p .resumeFrame s
  | .beacon => if f.modifier = 1 then helloPeer p s else s
  | .data => s
  | .ack => s

/-- A good frame at the Peer Table: presence first, then the frame's other claims (R99). -/
def peerFrame (f : GoodFrame) (s : State) : State :=
  match recordOf f.source with
  | some p => if claimsTaken s p then kindClaims p f (refreshPresence p s) else s
  | none => s

/-- A FULL outcome pauses the entry's destination (R90, R102). -/
def peerFull (dest : Byte) (s : State) : State :=
  match recordOf dest with
  | some p => if claimsTaken s p then pausePeer p .fullReply s else s
  | none => s

/-- The load value of the beacon timer: max(2, presence timeout / 4) (R110). -/
def beaconLoad (c : ConfigRecord) : Nat := max 2 (c.presenceTimeout / 4)

/-- A CLEAN outcome of any own frame loads the beacon timer, in every state but UNJOINED (R110). -/
def peerOutcome (o : OwnOutcome) (s : State) : State :=
  if joined s && o = .clean then
    { s with ptb := { s.ptb with beaconTimer := some (beaconLoad s.stc.config) } }
  else s

/-- The expiry of the beacon timer: in ACTIVE the pending beacon becomes PLAIN (R111). -/
def beaconExpires (s : State) : State :=
  let s' : State := { s with ptb := { s.ptb with beaconTimer := none } }
  if s.stc.station = .active then setBeacon .plain s' else s'

/-- The table cleared, with nothing handed on (R113). -/
def clearTable (s : State) : State := { s with ptb := PeerTable.cleared }

/-! ### The tick at the table (R17, R18, R105) -/

/-- A record's timers after a tick event (R18). The record is otherwise as it was: an expiry acts afterwards. -/
def peerAfterTick (r : Peer) : Peer :=
  { r with silence := timerAfterTick r.silence, pauseTimer := timerAfterTick r.pauseTimer }

/-- A timer of the record expires at this tick event. -/
def peerExpires (r : Peer) : Bool := timerExpires r.silence || timerExpires r.pauseTimer

/-- The expiries of one record at a tick event, from the record before it: a loss covers a pause that ends with it (R105). -/
def expirePeer (before : Vector Peer 32) (s : State) (p : Fin 32) : State :=
  if timerExpires before[p].silence then losePeer p s
  else if timerExpires before[p].pauseTimer then resumePeer p .expiry s
  else s

/-- A tick event at the records: every timer counts, then those that expire act, the records in a free order (log entry 5). -/
def tickRecords (s : State) : State :=
  let before := s.ptb.records
  let s := { s with ptb := { s.ptb with records := mapCells peerAfterTick before } }
  let (expiring, s) := freeOrder (fun p : Fin 32 => p.val) (allRecords.filter fun p => peerExpires before[p]) s
  expiring.foldl (expirePeer before) s

/-- A tick event at the beacon timer. -/
def tickBeacon (s : State) : State :=
  if timerExpires s.ptb.beaconTimer then beaconExpires s
  else { s with ptb := { s.ptb with beaconTimer := timerAfterTick s.ptb.beaconTimer } }

end Sys2Proof.Machine
end

