-- ==== Sys2Proof/Machine/Station.lean ====
section
/-! DEFINITION. Station Control and the Access Ladder in every event: claims on last sender (chapter 3), the moves between
station states (chapter 9), and the transmit request (R22). -/

namespace Sys2Proof.Machine

/-! ### Last sender (R30 to R35) -/

/-- Last sender set (R30). -/
def setLastSender (l : Option Nat) (s : State) : State := { s with lastSender := l }

/-- The station state and the listening round set. -/
def setStation (st : StationState) (round : Option Nat) (s : State) : State :=
  { s with stc := { s.stc with station := st, listeningRound := round } }

/-- Entry into ANNOUNCING: the listening round becomes absent and the pending beacon JOINING (R152). -/
def enterAnnouncing (s : State) : State := setBeacon .joining (setStation .announcing none s)

/-- LEARNED acts in LISTENING alone (R150). -/
def learned (s : State) : State := if s.stc.station = .listening then enterAnnouncing s else s

/-- Noise, a bad frame or a frame from N or above makes last sender UNKNOWN, in every state but UNJOINED (R32, R33, R35). -/
def ladderUnknown (s : State) : State := if joined s then setLastSender none s else s

/-- A heard frame from this source sets last sender and gives LEARNED, in every state but UNJOINED (R31, R35). -/
def ladderHeard (source : Nat) (s : State) : State := if joined s then learned (setLastSender (some source) s) else s

/-- The claim of an own frame's outcome (R34, R35). -/
def ladderOutcome (kind : FrameKind) (o : OwnOutcome) (s : State) : State :=
  match o with
  | .clean => if joined s && kind ≠ .ack then setLastSender (some s.stc.config.ownNumber) s else s
  | .collided => ladderUnknown s
  | .echoLost => ladderUnknown s

/-! ### Leaving, halting, becoming ACTIVE -/

/-- LEAVE completion: the arrival in UNJOINED, with its LEFT notice (R158). -/
def leaveCompletion (s : State) : State :=
  offerNotice (plainNotice .left 0) (setBeacon .none (clearTable (setLastSender none (setStation .unjoined none s))))

/-- The report that the attempt in flight has ended, other than by ECHO_LOST: it acts in LEAVING alone (R157). -/
def attemptEnded (s : State) : State := if s.stc.station = .leaving then leaveCompletion s else s

/-- Entry into HALTED with its notice: the state left, and the kind of the frame whose echo was lost (R154, R142). -/
def enterHalted (kind : FrameKind) (s : State) : State :=
  offerNotice { kind := .halted, subject := byteOf s.stc.station.code, detail := byteOf kind.code }
    (setStation .halted none (monitorWithdraw s))

/-- Entry into ACTIVE with its JOINED notice (R153, R141). -/
def enterActive (s : State) : State :=
  offerNotice { kind := .joined, subject := byteOf s.stc.config.ownNumber, detail := byteOf s.stc.config.ladderSize }
    (monitorEntersActive (setStation .active none s))

/-- The outcome of an own frame at Station Control (R153, R154, R157). `ended`: it ended the attempt of an entry. -/
def stationOutcome (own : OwnFrame) (o : OwnOutcome) (ended : Bool) (s : State) : State :=
  match o with
  | .echoLost => if receives s then enterHalted own.kind s else s
  | .collided => if ended then attemptEnded s else s
  | .clean =>
    if ended then attemptEnded s
    else if own.kind = .beacon && own.joining && s.stc.station = .announcing then enterActive s
    else s

end Sys2Proof.Machine
end

