-- ==== Sys2Proof/Machine/Line.lean ====
section
/-! DEFINITION. The Line Interface's transmit side (chapter 2): the transmit request, the echo comparison, the end of an
own frame and what each block does at it. -/

namespace Sys2Proof.Machine

/-- The Line Interface replaced. -/
def setLine (l : LineInterface) (s : State) : State := { s with lif := l }

/-! ### The transmit request (R22) -/

/-- A request is taken with the transmitter OFF and no own frame in progress; before the end of an own frame it is refused
with BUSY (R22, R27, R159; log entry 31). -/
def requestTaken (s : State) : Bool := s.lif.transmitter = .off && s.lif.own.isNone

/-- The Line Interface as it takes a request: LDE asserted, LEAD, comparison OPEN, echo list empty (R22). -/
def lineWithRequest (bytes : List Byte) (own : OwnFrame) (l : LineInterface) : LineInterface :=
  { l with transmitter := .lead, lde := true, bitTimer := 0, sending := none, toSend := bytes, echo := [], own := some own }

/-- The own frame of a request that has just been taken (R22). -/
def newOwnFrame (kind : FrameKind) (joining : Bool) (requester : Requester) : OwnFrame :=
  { kind, joining, requester, comparison := .opened }

/-! ### The end of an own frame (R27) -/

/-- The outcome of a comparison that is not OPEN (R27). -/
def outcomeOf : Comparison → Option OwnOutcome
  | .opened => none
  | .settledClean => some .clean
  | .collided => some .collided
  | .echoLost => some .echoLost

/-- The own frame has ended: the transmitter is OFF and the comparison is not OPEN (R27). -/
def endedOwnFrame (l : LineInterface) : Option (OwnFrame × OwnOutcome) :=
  match l.transmitter, l.own with
  | .off, some own => (outcomeOf own.comparison).map fun o => (own, o)
  | _, _ => none

/-- The outcome at the requester (R27): the Transmit Queue, or the Reply Unit, whose pending reply in SENDING becomes
absent (R84). -/
def requesterOutcome (own : OwnFrame) (o : OwnOutcome) (s : State) : State :=
  match own.requester with
  | .transmitQueue => currentOutcome o s
  | .replyUnit =>
    match s.rpu.pending with
    | some r => if r.sending then { s with rpu := { s.rpu with pending := none } } else s
    | none => s

/-- The current frame is an entry's. -/
def currentIsEntry (s : State) : Bool :=
  match s.txq.current with
  | some (.entry _) => true
  | _ => false

/-- The outcome of an own frame at every block: Access Ladder, Peer Table, requester, Congestion Monitor, Station Control
(R27, R34, R110, R136, R153, R154, R157). -/
def handOutcome (own : OwnFrame) (o : OwnOutcome) (s : State) : State :=
  let s := peerOutcome o (ladderOutcome own.kind o s)
  let s' := monitorOutcome own.kind o (requesterOutcome own o s)
  stationOutcome own o (currentIsEntry s && s'.txq.current.isNone) s'

/-- If the own frame has ended, comparison and requester become absent and its outcome is handed on (R27). -/
def finishOwnFrame (s : State) : State :=
  match endedOwnFrame s.lif with
  | some (own, o) => handOutcome own o (setLine { s.lif with own := none } s)
  | none => s

/-! ### The echo comparison (R24 to R26) -/

/-- The Line Interface with the comparison judged. -/
def LineInterface.judged (l : LineInterface) (c : Comparison) : LineInterface :=
  { l with own := l.own.map fun o => { o with comparison := c } }

/-- The frame is cut: the echo list is emptied and no further character begins; in LEAD, LDE is released at once
(R25, R26). -/
def LineInterface.cut (l : LineInterface) (c : Comparison) : LineInterface :=
  let l := { l.judged c with echo := [], toSend := [] }
  if l.transmitter = .lead then { l with transmitter := .off, lde := false, bitTimer := 0, sending := none } else l

/-- The Frame Receiver at a collision of the own frame: an own-marked frame in assembly, should it end good, is another
station's that survived the collision (R49, R50; log entry 34). -/
def FrameReceiver.atCollision : FrameReceiver → FrameReceiver
  | .awaitSync => .awaitSync
  | .inFrame a => .inFrame { a with collided := a.ownMark }
  | .draining => .draining

/-- A collision is found: COLLIDED, counted, and the frame cut (R25). -/
def collide (s : State) : State :=
  { s with lif := s.lif.cut .collided,
           frx := s.frx.atCollision,
           counters := { s.counters with collisions := countUp s.counters.collisions } }

/-- Every character of the frame has been echoed: the list is empty and the transmitter TRAILING or OFF (R24). -/
def LineInterface.allEchoed (l : LineInterface) : Bool :=
  l.echo.isEmpty && (l.transmitter = .trailing || l.transmitter = .off)

/-- The comparison settles clean once every character has been echoed (R24). -/
def LineInterface.settle (l : LineInterface) : LineInterface :=
  if l.allEchoed then l.judged .settledClean else l

/-- A character completed on LRX, taken as an echo while the comparison is OPEN (R24). -/
def compareEcho (value : Byte) (stopBit : Bool) (s : State) : State :=
  match s.lif.own with
  | none => s
  | some own =>
    if own.comparison = .opened then
      match s.lif.echo with
      | c :: rest =>
        if c.value = value && stopBit then setLine ({ s.lif with echo := rest }).settle s else collide s
      | [] =>
        match s.lif.transmitter with
        | .lead => collide s
        | .sending => collide s
        | .trailing => s
        | .off => s
    else s

/-- The comparison is OPEN. -/
def LineInterface.isOpen (l : LineInterface) : Bool :=
  match l.own with
  | some own => own.comparison = .opened
  | none => false

/-- The own frame was cut: COLLIDED or ECHO_LOST (R25, R26). -/
def LineInterface.isCut (l : LineInterface) : Bool :=
  match l.own with
  | some own => own.comparison = .collided || own.comparison = .echoLost
  | none => false

end Sys2Proof.Machine
end

