-- ==== Sys2Proof/Machine/Pool.lean ====
section
/-! DEFINITION. The Receive Pool's part of every event (chapter 7). Each change of fill is handed to the monitor (R121). -/

namespace Sys2Proof.Machine

/-- The pool replaced. -/
def setPool (p : ReceivePool) (s : State) : State := { s with rxp := p }

/-- A watch entry matches a frame of this source and payload (R118). -/
def Watch.accepts (w : Watch) (source : Byte) (payload : List Byte) : Bool :=
  match payload with
  | [] => false
  | b :: _ => w.enabled && (w.source = none || w.source = some source.toNat) && (b &&& w.mask) = (w.value &&& w.mask)

/-- The lowest-numbered watch entry that matches; none sends the record to NORMAL (R118). -/
def watchIndex (c : ConfigRecord) (source : Byte) (payload : List Byte) : Option (Fin 4) :=
  [(0 : Fin 4), 1, 2, 3].find? fun i => c.watches[i].accepts source payload

/-- The delivery timer loaded with the delivery timeout; 0 leaves it as it is (R127). -/
def loadDelivery (c : ConfigRecord) (t : Option Nat) : Option Nat :=
  if c.deliveryTimeout = 0 then t else some c.deliveryTimeout

/-- The record a good DATA frame is stored as (R115, R118). -/
def recordFor (c : ConfigRecord) (broadcast : Bool) (f : GoodFrame) : Record where
  source := f.source
  broadcast := broadcast
  seq := f.seq
  payload := f.payload
  watch := watchIndex c f.source f.payload

/-- The pool with a record at the tail of its lane, and the fill raised by its blocks (R116, R119, R127). -/
def poolWith (c : ConfigRecord) (r : Record) (p : ReceivePool) : ReceivePool :=
  if r.watch.isSome then { p with urgent := p.urgent ++ [r], fill := p.fill + r.blocks }
  else { p with normal := p.normal ++ [r], fill := p.fill + r.blocks, deliveryTimer := loadDelivery c p.deliveryTimer }

/-- A good DATA frame that fits is stored (R119, R120), and the monitor judges the new fill (R121). -/
def storeFrame (broadcast : Bool) (f : GoodFrame) (s : State) : State :=
  judgeFill (setPool (poolWith s.stc.config (recordFor s.stc.config broadcast f) s.rxp) s)

/-- Broadcast admission (R120). -/
def admitBroadcast (f : GoodFrame) (s : State) : State :=
  if f.kind = .data && f.dest = Config.toAll && receives s then
    if fits s.rxp f.payload.length then storeFrame true f s
    else { s with counters := { s.counters with broadcastDrops := countUp s.counters.broadcastDrops } }
  else s

/-- The pool without the head of URGENT (R122). -/
def poolWithoutUrgent (r : Record) (rest : List Record) (p : ReceivePool) : ReceivePool :=
  { p with urgent := rest, fill := p.fill - r.blocks }

/-- The pool without the head of NORMAL: the stale flag is cleared, and the delivery timer reloaded, or stopped if the
lane is empty (R122, R127, R128). -/
def poolWithoutNormal (c : ConfigRecord) (r : Record) (rest : List Record) (p : ReceivePool) : ReceivePool :=
  { p with normal := rest, fill := p.fill - r.blocks, stale := false,
           deliveryTimer := if rest.isEmpty then none else loadDelivery c p.deliveryTimer }

/-- The expiry of the delivery timer: the stale flag is set (R128). -/
def deliveryExpires (s : State) : State := setPool { s.rxp with stale := true, deliveryTimer := none } s

/-- A tick event at the delivery timer. -/
def tickDelivery (s : State) : State :=
  if timerExpires s.rxp.deliveryTimer then deliveryExpires s
  else setPool { s.rxp with deliveryTimer := timerAfterTick s.rxp.deliveryTimer } s

/-- A tick event at the refresh timer. -/
def tickRefresh (s : State) : State :=
  if timerExpires s.cgm.refreshTimer then refreshExpires s
  else setMonitor { s.cgm with refreshTimer := timerAfterTick s.cgm.refreshTimer } s

/-- The pool after SET FIELD of the delivery timeout (R129). -/
def poolAfterTimeoutWrite (timeout : Nat) (p : ReceivePool) : ReceivePool :=
  if timeout = 0 then { p with deliveryTimer := none }
  else if p.deliveryTimer.isNone && !p.normal.isEmpty then { p with deliveryTimer := some timeout }
  else p

end Sys2Proof.Machine
end

