-- ==== Sys2Proof/Machine/Reply.lean ====
section
/-! DEFINITION. The Reply Unit in every event (chapter 5): the acceptance decision, the pending reply, the reply wait. -/

namespace Sys2Proof.Machine

/-! ### Receiver side -/

/-- A pending reply in DECIDED is abandoned: another character began before idle time 2 (R83). -/
def abandonReply (s : State) : State :=
  match s.rpu.pending with
  | some r => if r.sending then s else { s with rpu := { s.rpu with pending := none } }
  | none => s

/-- The last-received sequence of a source's record; absent for a source of N or above (R79, R80). -/
def lastReceivedOf (s : State) (source : Byte) : Option Byte :=
  match recordOf source with
  | some p => if recordInUse s p then s.ptb.records[p].lastReceived else none
  | none => none

/-- The acceptance decision's result (R80). -/
def decision (f : GoodFrame) (s : State) : ReplyResult :=
  if lastReceivedOf s f.source = some f.seq then .duplicate
  else if fits s.rxp f.payload.length then .taken
  else .full

/-- The last-received sequence of a source's record set, where it has one (R79, R80). -/
def setLastReceived (source seq : Byte) (s : State) : State :=
  match recordOf source with
  | some p => if recordInUse s p then setPeer p { s.ptb.records[p] with lastReceived := some seq } s else s
  | none => s

/-- What a decision does to pool, record and counters (R80). -/
def applyDecision (f : GoodFrame) (r : ReplyResult) (s : State) : State :=
  match r with
  | .duplicate => { s with counters := { s.counters with duplicates := countUp s.counters.duplicates } }
  | .taken => storeFrame false f (setLastReceived f.source f.seq s)
  | .full => s

/-- The pending reply of a decision, in phase DECIDED; an earlier one in SENDING stays (R80, R83). -/
def createReply (f : GoodFrame) (r : ReplyResult) (s : State) : State :=
  let fresh : State :=
    { s with rpu := { s.rpu with pending := some { dest := f.source, seq := f.seq, result := r, sending := false } } }
  match s.rpu.pending with
  | some old => if old.sending then s else fresh
  | none => fresh

/-- A decision is made for a good DATA frame to the own number, in the states that receive (R79). -/
def isForUs (f : GoodFrame) (s : State) : Bool :=
  f.kind = .data && f.dest = ownByte s && f.source ≠ ownByte s && receives s

/-- The receiver side at a good frame (R79, R80). -/
def acceptUnicast (f : GoodFrame) (s : State) : State :=
  if isForUs f s then createReply f (decision f s) (applyDecision f (decision f s) s) else s

/-- The characters of the ACK of a pending reply (R4, R82). -/
def ackBytes (s : State) (r : PendingReply) : List Byte :=
  frameBytes .ack r.result.modifier r.dest (ownByte s) r.seq []

/-- The ACK's transmit request at idle time 2 (R82): taken, the reply enters SENDING and a FULL is counted; refused with
BUSY, the reply is dropped. -/
def sendReply (r : PendingReply) (s : State) : State :=
  if receives s && requestTaken s then
    { s with lif := lineWithRequest (ackBytes s r) (newOwnFrame .ack false .replyUnit) s.lif,
             rpu := { s.rpu with pending := some { r with sending := true } },
             counters := if r.result = .full then { s.counters with fullSent := countUp s.counters.fullSent } else s.counters }
  else { s with rpu := { s.rpu with pending := none } }

/-! ### Sender side -/

/-- The reply wait ends: it becomes absent, NO_REPLY is counted, FULL pauses the destination, and the entry takes the
outcome (R90). -/
def endWait (w : ReplyWait) (o : ReplyOutcome) (s : State) : State :=
  let s : State := { s with rpu := { s.rpu with wait := none } }
  let s : State :=
    match o with
    | .noReply => { s with counters := { s.counters with noReplies := countUp s.counters.noReplies } }
    | .full => peerFull w.dest s
    | .taken => s
    | .duplicate => s
  replyOutcome w.handle o s

/-- A candidate is an ACK that answers the entry awaited: destination, source and sequence fit (R89). -/
def answersWait (w : ReplyWait) (f : GoodFrame) (s : State) : Bool :=
  f.kind = .ack && f.dest = ownByte s && f.source = w.dest && f.seq = w.seq

/-- The outcome of a good candidate (R89). -/
def judgeReply (w : ReplyWait) (f : GoodFrame) (s : State) : ReplyOutcome :=
  if answersWait w f s then
    if f.modifier = 1 then .taken
    else if f.modifier = 2 then .duplicate
    else if f.modifier = 3 then .full
    else .noReply
  else .noReply

/-- A good result at the reply wait: it is the candidate's (R88, R89; log entry 13). -/
def waitGood (f : GoodFrame) (s : State) : State :=
  match s.rpu.wait with
  | some w => endWait w (judgeReply w f s) s
  | none => s

/-- A bad result ends the wait in either phase (R88). -/
def waitBad (s : State) : State :=
  match s.rpu.wait with
  | some w => endWait w .noReply s
  | none => s

/-- Noise ends a wait in OPEN and is ignored in CANDIDATE (R88). -/
def waitNoise (s : State) : State :=
  match s.rpu.wait with
  | some w => if w.candidate then s else endWait w .noReply s
  | none => s

/-- A frame-start indication makes a wait in OPEN a wait for its candidate (R88). -/
def waitLead (s : State) : State :=
  match s.rpu.wait with
  | some w => { s with rpu := { s.rpu with wait := some { w with candidate := true } } }
  | none => s

/-- The wait's end is the end of the attempt, which Station Control takes last in the event (R157, R171). -/
def afterWait (before after : State) : State :=
  if before.rpu.wait.isSome && after.rpu.wait.isNone then attemptEnded after else after

end Sys2Proof.Machine
end

