-- ==== Sys2Proof/Machine/Receiver.lean ====
section
/-! DEFINITION. The Frame Receiver (chapter 1): assembly, the validity checks, and the handing on of each result. -/

namespace Sys2Proof.Machine

/-! ### Handing results on (R14, R15) -/

/-- A noise character (R8, R14): counted, and handed to the Access Ladder and the Reply Unit. -/
def handNoise (s : State) : State :=
  let s : State := { s with counters := { s.counters with noise := countUp s.counters.noise } }
  let s := abandonReply (ladderUnknown s)
  afterWait s (waitNoise s)

/-- A bad frame that is not own-marked (R9, R10, R14): counted by cause, and handed to the Access Ladder and the Reply Unit. -/
def handBad (cause : BadCause) (s : State) : State :=
  let s : State := { s with counters := s.counters.countBad cause }
  let s := abandonReply (ladderUnknown s)
  afterWait s (waitBad s)

/-- The frame-start indication of a lead without the own mark (R8, R83, R88). -/
def handLead (s : State) : State := waitLead (abandonReply s)

/-- The NUMBER_CLASH or LADDER_MISMATCH notice of a frame (R15, R171). -/
def sourceNotice (kind : NoticeKind) (f : GoodFrame) : Notice :=
  { kind, subject := f.source, detail := byteOf f.kind.code }

/-- The source is N or above and the frame no ACK, in a joined state (R15, R33). -/
def mismatches (f : GoodFrame) (s : State) : Bool :=
  joined s && f.kind ≠ .ack && s.stc.config.ladderSize ≤ f.source.toNat

/-- The Frame Receiver's own part for a frame from N or above: LADDER_MISMATCH, and last sender UNKNOWN (R15, R33). -/
def handMismatch (f : GoodFrame) (s : State) : State :=
  if mismatches f s then ladderUnknown (offerNotice (sourceNotice .ladderMismatch f) s) else s

/-- The Access Ladder at a good frame: any kind but ACK, from a source below N (R31). -/
def ladderFrame (f : GoodFrame) (s : State) : State :=
  if f.kind ≠ .ack && f.source.toNat < s.stc.config.ladderSize then ladderHeard f.source.toNat s else s

/-- A good frame from the own number in a joined state: NUMBER_CLASH, the Access Ladder unless it is an ACK, and the
sender side; no other recipient (R15, R31, R89). -/
def handClash (f : GoodFrame) (s : State) : State :=
  let s := offerNotice (sourceNotice .numberClash f) s
  let s := if f.kind = .ack then s else ladderHeard s.stc.config.ownNumber s
  afterWait s (waitGood f s)

/-- Every other good frame: Access Ladder, Peer Table, the Reply Unit's sender side, acceptance, broadcast admission, and
last Station Control at the end of an attempt (R15, R171). -/
def handOthers (f : GoodFrame) (s : State) : State :=
  let s := peerFrame f (ladderFrame f (handMismatch f s))
  afterWait s (admitBroadcast f (acceptUnicast f (waitGood f s)))

/-- A good frame that is not own-marked (R11, R15). -/
def handGood (f : GoodFrame) (s : State) : State :=
  let s : State := { s with counters := { s.counters with goodFrames := countUp s.counters.goodFrames } }
  if joined s && f.source = ownByte s then handClash f s else handOthers f s

/-! ### Assembly (R7 to R13) -/

/-- The Frame Receiver in another assembly state. -/
def setReceiver (r : FrameReceiver) (s : State) : State := { s with frx := r }

/-- The assembly of a frame whose lead has just been taken (R8). -/
def newAssembly (ownMark : Bool) : Assembly where
  ownMark := ownMark
  collided := false
  kind := none
  dest := none
  source := none
  seq := none
  length := none
  payload := []
  toCome := 0
  check := checkStart
  checkHigh := none

/-- A character in AWAIT_SYNC (R8): a lead, or noise. -/
def takeSync (value : Byte) (stopBit ownMark : Bool) (s : State) : State :=
  if value = Config.lead && stopBit then
    let s := setReceiver (.inFrame (newAssembly ownMark)) s
    if ownMark then s else handLead s
  else handNoise s

/-- A frame fails a check (R9, R13): the receiver goes to `next`, and the bad result is handed on unless own-marked. -/
def failFrame (a : Assembly) (cause : BadCause) (next : FrameReceiver) (s : State) : State :=
  let s := setReceiver next s
  if a.ownMark then s else handBad cause s

/-- The fields of a frame that has passed every check (R11). -/
def goodFrameOf (a : Assembly) : Option GoodFrame :=
  match a.kind, a.dest, a.source, a.seq with
  | some k, some d, some src, some q =>
    (frameKindOf (kindCode k)).map fun kind =>
      { kind, modifier := modifierOf k, dest := d, source := src, seq := q, payload := a.payload }
  | _, _, _, _ => none

/-- A good own-marked frame that survived a collision with the station's own frame is dropped (R13, R14, R15, R49); from the own
number, where R50 has it raise NUMBER_CLASH, it is dropped or heard as the free value says (log entry 34). -/
def handSurvivor (f : GoodFrame) (s : State) : State :=
  if joined s && f.source = ownByte s && Config.survivorHeard then handClash f s else s

/-- A good frame, by its own mark: handed on without it (R11, R15), and with it dropped with no result (R13, R14), but for what
R50 says of one that survived a collision with the own frame (log entry 34). -/
def handPassed (a : Assembly) (f : GoodFrame) (s : State) : State :=
  if a.ownMark then (if a.collided then handSurvivor f s else s) else handGood f s

/-- A frame passes every check at its low check character (R11, R13). -/
def passFrame (a : Assembly) (s : State) : State :=
  let s := setReceiver .awaitSync s
  match goodFrameOf a with
  | some f => handPassed a f s
  | none => s

/-- What one character does to a frame being assembled: it goes on, fails a check, or passes the last. -/
inductive Taken where
  | goesOn (a : Assembly)
  | fails (cause : BadCause)
  | failsAtEnd (cause : BadCause)
  | passes
  deriving DecidableEq, Repr

/-- The length character's checks: length, then destination (R9). -/
def takeLength (a : Assembly) (kind : Byte) (dest : Byte) (value : Byte) : Taken :=
  let isData : Bool := frameKindOf (kindCode kind) = some .data
  if (isData && Config.maxPayload < value.toNat) || (!isData && value ≠ 0) then .fails .length
  else if 31 < dest.toNat && dest ≠ Config.toAll then .fails .address
  else .goesOn { a with length := some value, toCome := value.toNat + 2, check := checkByte a.check value }

/-- A payload or check character (R9). -/
def takeRest (a : Assembly) (value : Byte) : Taken :=
  if 2 < a.toCome then
    .goesOn { a with payload := a.payload ++ [value], toCome := a.toCome - 1, check := checkByte a.check value }
  else match a.checkHigh with
    | none => .goesOn { a with checkHigh := some value, toCome := a.toCome - 1 }
    | some high =>
      if high.toNat * 256 + value.toNat = a.check.toNat then .passes else .failsAtEnd .check

/-- The next field of a frame, framing having passed (R9). -/
def takeField (a : Assembly) (value : Byte) : Taken :=
  match a.kind with
  | none =>
    if (frameKindOf (kindCode value)).isSome then .goesOn { a with kind := some value, check := checkByte a.check value }
    else .fails .kind
  | some kind =>
    match a.dest with
    | none => .goesOn { a with dest := some value, check := checkByte a.check value }
    | some dest =>
      match a.source with
      | none => .goesOn { a with source := some value, check := checkByte a.check value }
      | some _ =>
        match a.seq with
        | none => .goesOn { a with seq := some value, check := checkByte a.check value }
        | some _ =>
          match a.length with
          | none => takeLength a kind dest value
          | some _ => takeRest a value

/-- A character of a frame, its framing judged first (R9). The low check character ends the frame whatever fails. -/
def takeCharacter (a : Assembly) (value : Byte) (stopBit : Bool) : Taken :=
  if stopBit then takeField a value
  else if a.checkHigh.isSome then .failsAtEnd .framing
  else .fails .framing

/-- A character in IN_FRAME (R9, R11, R13). -/
def takeInFrame (a : Assembly) (value : Byte) (stopBit : Bool) (s : State) : State :=
  match takeCharacter a value stopBit with
  | .goesOn a' => setReceiver (.inFrame a') s
  | .fails cause => failFrame a cause .draining s
  | .failsAtEnd cause => failFrame a cause .awaitSync s
  | .passes => passFrame a s

/-- A character at the Frame Receiver, in any assembly state (R8, R9, R12). -/
def receiveCharacter (value : Byte) (stopBit ownMark : Bool) (s : State) : State :=
  match s.frx with
  | .awaitSync => takeSync value stopBit ownMark s
  | .inFrame a => takeInFrame a value stopBit s
  | .draining => s

/-- The idle-time event of value 7 at the Frame Receiver (R10, R12). -/
def receiveGap (s : State) : State :=
  match s.frx with
  | .awaitSync => s
  | .inFrame a => failFrame a .truncated .awaitSync s
  | .draining => setReceiver .awaitSync s

end Sys2Proof.Machine
end

