-- ==== Sys2Proof/Machine/LineEvents.lean ====
section
/-! DEFINITION. The events on LRX and LTX (chapter 2): START_BIT, START_BIT_GLITCH, CHARACTER_COMPLETE, HOLDING_RELEASE,
RECEIVER_ARMED, LTX_START_BIT, LAST_STOP_BIT_END, LDE_RELEASE, ECHO_LOSS. An event whose condition does not hold in the
state is not raised and changes nothing (log entry 6). -/

namespace Sys2Proof.Machine

/-- The receiver's state, and the idle time back at 0, counting or held (R19, R20). -/
def LineInterface.heard (l : LineInterface) (r : Receiver) (counting : Bool) : LineInterface :=
  { l with receiver := r, idle := 0, idleCounting := counting }

/-- LRX falls: in ARMED a start bit begins (R19, R20), received at the bit time that the next start bit has (R16); in UNARMED
the whole bit time at 1 is broken off, no character begins, and the idle time is held at 0 until the receiver leaves UNARMED,
as where LRX read 0 at the reset (R7, R19, R20; log entry 29). -/
def startBitBegins (s : State) : State :=
  match s.lif.receiver with
  | .armed => setLine (s.lif.heard (.inCharacter s.lif.lde s.lif.startDivisor) false) s
  | .unarmed _ => setLine (s.lif.heard (.unarmed false) false) s
  | .inCharacter _ _ => s
  | .holding => s

/-- A start bit reads 1 at its middle: back to ARMED, the idle time counting again from 0 (R19, R20). -/
def startBitRejected (s : State) : State :=
  match s.lif.receiver with
  | .inCharacter _ _ => setLine (s.lif.heard .armed true) s
  | _ => s

/-- The receiver after a character: ARMED, or HOLDING after a framing error (R19). -/
def receiverAfter (stopBit : Bool) : Receiver := if stopBit then .armed else .holding

/-- A character is complete (R19, R20): it goes to the Frame Receiver and to the echo comparison, and may end the own
frame (R24, R27). -/
def characterCompletes (value : Byte) (stopBit : Bool) (s : State) : State :=
  match s.lif.receiver with
  | .inCharacter ldeAtStart _ =>
    let s := setLine (s.lif.heard (receiverAfter stopBit) stopBit) s
    finishOwnFrame (compareEcho value stopBit (receiveCharacter value stopBit ldeAtStart s))
  | _ => s

/-- LRX reads 1 in HOLDING: back to ARMED, the idle time counting from now (R19, R20). -/
def holdingEnds (s : State) : State :=
  match s.lif.receiver with
  | .holding => setLine (s.lif.heard .armed true) s
  | _ => s

/-- LRX has read 1 for a whole bit time: the receiver leaves UNARMED; an idle time that counts already goes on (R19, R20). -/
def receiverArms (s : State) : State :=
  match s.lif.receiver with
  | .unarmed _ => setLine { s.lif with receiver := .armed, idleCounting := true } s
  | _ => s

/-- The next character can begin on LTX: the comparison is OPEN, the transmitter in LEAD or SENDING, and the echo list has
room (R23 to R26; log entry 30). -/
def canSendCharacter (l : LineInterface) : Bool :=
  l.isOpen && l.echo.length < Config.echoCapacity && (l.transmitter = .lead || l.transmitter = .sending)

/-- The start bit of the next character begins on LTX, and the character joins the echo list (R23). -/
def sendCharacter (s : State) : State :=
  match s.lif.toSend with
  | c :: rest =>
    if canSendCharacter s.lif then
      setLine { s.lif with transmitter := .sending, bitTimer := 0, sending := some c, toSend := rest,
                           echo := s.lif.echo ++ [{ value := c, elapsed := 0 }] } s
    else s
  | [] => s

/-- The character in transmission is the last: none is left to begin, as after a cut (R23, R25). -/
def isLastCharacter (l : LineInterface) : Bool := l.transmitter = .sending && l.toSend.isEmpty

/-- The last stop bit ends, at the moment the row names (log entry 35): TRAILING (R23). With every echo in by then, the comparison settles (R24; log entry 11). -/
def lastStopBitEnds (s : State) : State :=
  if isLastCharacter s.lif then
    let l : LineInterface := { s.lif with transmitter := .trailing, bitTimer := 0, sending := none }
    setLine (if l.isOpen then l.settle else l) s
  else s

/-- The moment at which the next character's start bit is due on LTX, as the row names it (log entry 35): it begins, or, in a frame cut at that same moment, it is
not begun and the character just ended was the last (R23, R25, R26; log entry 12). -/
def startBitDue (s : State) : State := if s.lif.isCut then lastStopBitEnds s else sendCharacter s

/-- LDE can be released: TRAILING, or SENDING in a frame that was cut (R23, R25, R26; log entry 12). -/
def canReleaseLde (l : LineInterface) : Bool :=
  l.transmitter = .trailing || (l.transmitter = .sending && l.isCut)

/-- LDE is released, at the moment the row names (log entry 35), the transmitter enters OFF, and the own frame may end
(R23, R27). -/
def ldeReleases (s : State) : State :=
  if canReleaseLde s.lif then
    finishOwnFrame (setLine { s.lif with transmitter := .off, lde := false, bitTimer := 0, sending := none } s)
  else s

/-- Echo loss is found while the comparison is OPEN and an echo is awaited, at the moment the row names: 20 bit times after the
scheduled end of the oldest character have then passed (R26; log entry 35). -/
def echoLossFound (s : State) : State :=
  if s.lif.isOpen && !s.lif.echo.isEmpty then finishOwnFrame (setLine (s.lif.cut .echoLost) s) else s

/-- An event of the line is taken only out of reset (R182). -/
def whenRunning (f : State → State) (s : State) : State := if running s then f s else s

/-- START_BIT (R19, R20). -/
def execStartBit (s : State) : Host.Outcome State Fault Refusal := .next (settleAttn (whenRunning startBitBegins s))

/-- START_BIT_GLITCH (R19, R20). -/
def execStartBitGlitch (s : State) : Host.Outcome State Fault Refusal :=
  .next (settleAttn (whenRunning startBitRejected s))

/-- CHARACTER_COMPLETE (R19). -/
def execCharacterComplete (value : Byte) (stopBit : Bool) (s : State) : Host.Outcome State Fault Refusal :=
  .next (settleAttn (whenRunning (characterCompletes value stopBit) s))

/-- HOLDING_RELEASE (R19). -/
def execHoldingRelease (s : State) : Host.Outcome State Fault Refusal := .next (settleAttn (whenRunning holdingEnds s))

/-- RECEIVER_ARMED (R19). -/
def execReceiverArmed (s : State) : Host.Outcome State Fault Refusal := .next (settleAttn (whenRunning receiverArms s))

/-- LTX_START_BIT (R23, R25). -/
def execLtxStartBit (s : State) : Host.Outcome State Fault Refusal := .next (settleAttn (whenRunning startBitDue s))

/-- LAST_STOP_BIT_END (R23). -/
def execLastStopBitEnd (s : State) : Host.Outcome State Fault Refusal :=
  .next (settleAttn (whenRunning lastStopBitEnds s))

/-- LDE_RELEASE (R23, R25). -/
def execLdeRelease (s : State) : Host.Outcome State Fault Refusal := .next (settleAttn (whenRunning ldeReleases s))

/-- ECHO_LOSS (R26). -/
def execEchoLoss (s : State) : Host.Outcome State Fault Refusal := .next (settleAttn (whenRunning echoLossFound s))

end Sys2Proof.Machine
end

