-- ==== Sys2Proof/Machine/Clock.lean ====
section
/-! DEFINITION. One bit time with nothing waiting in the queue (log entry 3): the tick base, the idle time and the line's
counts move on (R17, R20, R23, R26), and the events that fall due are put on the queue, in a free order (log entry 4). -/

namespace Sys2Proof.Machine

/-- The tick base after one bit time (R17). -/
def nextTickBase (n : Nat) : Nat := if n + 1 < Config.tickLength then n + 1 else 0

/-- The Line Interface after one bit time: its counts alone move (R17, R20, R23, R26). -/
def LineInterface.afterBitTime (l : LineInterface) : LineInterface :=
  { l with tickBase := nextTickBase l.tickBase,
           idle := if l.idleCounting then l.idle + 1 else l.idle,
           bitTimer := if l.transmitter = .off then l.bitTimer else l.bitTimer + 1,
           echo := l.echo.map fun c => { c with elapsed := c.elapsed + 1 } }

/-- The tick event falls due at the wrap of the tick base (R17). -/
def tickDue (l : LineInterface) : List Instr := if l.tickBase = 0 then [.tick] else []

/-- The idle-time events of the value just reached, for each recipient that acts on it (R21). SLOT_OPENING is raised for an
opening of any position: the Access Ladder judges it against its own position when it is taken, before or after another event
of the same boundary that changes last sender (R39; log entry 4). -/
def idleDue (s : State) : List Instr :=
  if s.lif.idleCounting then
    (if s.lif.idle = Config.gapEvent then [.idleGapLimit] else [])
      ++ (if s.lif.idle = Config.replyEvent then [.replyStart] else [])
      ++ (if s.lif.idle = s.stc.config.replyWindow then [.replyWindowEnd] else [])
      ++ (if isLadderTime s.stc.config s.lif.idle then [.slotOpening s.lif.idle] else [])
      ++ (match s.stc.listeningRound with
          | some round => if round ≤ s.lif.idle then [.listeningRoundEnd s.lif.idle] else []
          | none => [])
  else []

/-- The transmitter's next move, 1 bit time into LEAD or TRAILING, or at the end of a character (R23, R25). -/
def transmitDue (l : LineInterface) : List Instr :=
  match l.transmitter with
  | .off => []
  | .lead => if 1 ≤ l.bitTimer then [.ltxStartBit] else []
  | .sending =>
    if Config.characterBits ≤ l.bitTimer then (if l.toSend.isEmpty then [.lastStopBitEnd] else [.ltxStartBit]) else []
  | .trailing => if 1 ≤ l.bitTimer then [.ldeRelease] else []

/-- Echo loss falls due 20 bit times after the scheduled end of the oldest character awaited (R26). -/
def echoDue (l : LineInterface) : List Instr :=
  match l.echo with
  | c :: _ => if l.isOpen && Config.characterBits + Config.echoLossLimit ≤ c.elapsed then [.echoLoss] else []
  | [] => []

/-- An UNARMED receiver with LRX at 1 ever since the reset is ARMED after a whole bit time; once LRX has read 0, the whole bit
time at 1 is the line's to tell (R19; log entry 29). -/
def armDue (l : LineInterface) : List Instr :=
  match l.receiver with
  | .unarmed lrxHigh => if lrxHigh then [.receiverArmed] else []
  | .armed => []
  | .inCharacter _ _ => []
  | .holding => []

/-- The events that fall due at the boundary just reached. -/
def dueEvents (s : State) : List Instr :=
  tickDue s.lif ++ idleDue s ++ transmitDue s.lif ++ echoDue s.lif ++ armDue s.lif

/-- A number for each event, by which the free order ranks it. -/
def dueKey : Instr → Nat
  | .tick => 0
  | .idleGapLimit => 1
  | .replyStart => 2
  | .replyWindowEnd => 3
  | .slotOpening _ => 4
  | .listeningRoundEnd _ => 5
  | .ltxStartBit => 6
  | .lastStopBitEnd => 7
  | .ldeRelease => 8
  | .echoLoss => 9
  | _ => 10

/-- One bit time passes: the counts move on, and the events due wait in the queue. -/
def bitTimePasses (s : State) : State :=
  let s := takeBitTime s
  let s := setLine s.lif.afterBitTime s
  let (due, s) := freeOrder dueKey (dueEvents s) s
  { s with pending := s.pending ++ due }

/-- What the part does while no command waits: out of reset, a bit time passes; in reset, nothing runs (R182). -/
def idleStep (s : State) : State := whenRunning bitTimePasses s

end Sys2Proof.Machine
end

