-- ==== Sys2Proof/Machine/HostCommands.lean ====
section
/-! DEFINITION. What each host command does when it executes, with its answer (chapter 10 and the rules it names). A
command is one event; its answer bytes are fixed at execution (R162). -/

namespace Sys2Proof.Machine

/-- A command's effect: the state after it, and the answer bytes. -/
abbrev Effect := State → State × List Byte

/-- NOP changes nothing and is answered DONE (R163). -/
def cmdNop : Effect := fun s => (s, answerOf .done)

/-- The nine bytes of READ STATUS (R168, R180). -/
def statusBytes (s : State) : List Byte :=
  [byteOf s.stc.station.code, flagByte s.cgm.congested, byteOf s.rxp.fill, byteOf s.rxp.urgent.length,
    byteOf s.rxp.normal.length, byteOf s.notices.length, byteOf (freeCount s.txq),
    (match s.lastSender with | none => 255 | some n => byteOf n),
    byteOf ((attnCauses s).number + if s.hpt.attn then 16 else 0)]

/-- READ STATUS (R168). -/
def cmdReadStatus : Effect := fun s => (s, doneWith (statusBytes s))

/-- What an accepted SET FIELD of this field does besides the record (R16, R129, R145). ATTN is judged again after every
command (R178), the bit time for all but the next start bit at a boundary (R16). -/
def fieldWritten (f : FieldId) (c : ConfigRecord) (s : State) : State :=
  let s' : State := { s with stc := { s.stc with config := c } }
  match f with
  | .deliveryTimeout => setPool (poolAfterTimeoutWrite c.deliveryTimeout s.rxp) s'
  | .divisor => { s' with lif := s.lif.withNewDivisor c.divisor }
  | _ => s'

/-- SET FIELD: station state, id, value, in that order (R145). -/
def cmdSetField (id : Byte) (value : List Byte) : Effect := fun s =>
  if s.stc.station = .unjoined then
    match fieldOfId id with
    | none => (s, answerOf .badParam)
    | some f =>
      match writeField s.stc.config f value with
      | none => (s, answerOf .badParam)
      | some c => (fieldWritten f c s, answerOf .done)
  else (s, answerOf .wrongState)

/-- GET FIELD (R146). -/
def cmdGetField (id : Byte) : Effect := fun s =>
  match fieldOfId id with
  | none => (s, answerOf .badParam)
  | some f => (s, doneWith (readField s.stc.config f))

/-- The field id that JOIN reports, checks in id order (R149); none when every check passes. -/
def joinFault (c : ConfigRecord) : Option Byte :=
  if c.ladderSize ≤ c.ownNumber then some 0x01
  else if c.highMark ≤ c.lowMark then some 0x09
  else none

/-- A JOIN that passes its checks (R148). -/
def joinStation (s : State) : State :=
  monitorJoins (setLastSender none (setStation .listening (some (listeningRound s.stc.config)) s))

/-- JOIN (R147 to R149). -/
def cmdJoin : Effect := fun s =>
  if s.stc.station = .unjoined then
    match joinFault s.stc.config with
    | some id => (s, [AnswerCode.invalidConfig.byte, id])
    | none => (joinStation s, answerOf .done)
  else (s, answerOf .wrongState)

/-- An accepted LEAVE: WAITING and HELD entries withdrawn, the monitor's announcement cleared, and the station to LEAVING
while an entry is in flight, else to UNJOINED (R75, R142, R156; log entry 14). -/
def leaveStation (s : State) : State :=
  let s := monitorWithdraw (withdrawAll s)
  if anyInFlight s.txq then setStation .leaving none s else leaveCompletion s

/-- LEAVE (R156). -/
def cmdLeave : Effect := fun s =>
  match s.stc.station with
  | .unjoined => (s, answerOf .wrongState)
  | .leaving => (s, answerOf .wrongState)
  | .listening => (leaveStation s, answerOf .done)
  | .announcing => (leaveStation s, answerOf .done)
  | .active => (leaveStation s, answerOf .done)
  | .halted => (leaveStation s, answerOf .done)

/-- SOFT RESET: the reset takes effect when HCS next rises (R166). -/
def cmdSoftReset : Effect := fun s => ({ s with hpt := { s.hpt with softResetDue := true } }, answerOf .done)

/-- SUBMIT: station state, parameters, room, in that order (R55, R56). -/
def cmdSubmit (dest length : Byte) (payload : List Byte) : Effect := fun s =>
  if acceptsSubmit s then
    if badSubmit s dest length then (s, answerOf .badParam)
    else match lowestFree s.txq with
      | none => (s, answerOf .queueFull)
      | some h => (takeEntry h dest payload s, doneWith [byteOf h.val])
  else (s, answerOf .wrongState)

/-- The handle a parameter byte names; above 15 it names none (R69, R71). -/
def handleOf (b : Byte) : Option (Fin 16) := if h : b.toNat < 16 then some ⟨b.toNat, h⟩ else none

/-- CANCEL (R69). -/
def cmdCancel (handle : Byte) : Effect := fun s =>
  match handleOf handle with
  | none => (s, answerOf .badParam)
  | some h =>
    match s.txq.entries[h] with
    | none => (s, answerOf .noSuch)
    | some e =>
      if e.state.isQueued then (setEntry h none s, answerOf .done)
      else if e.state.inFlight then (s, answerOf .tooLate)
      else (s, answerOf .noSuch)

/-- QUERY ENTRY (R71). -/
def cmdQueryEntry (handle : Byte) : Effect := fun s =>
  match handleOf handle with
  | none => (s, answerOf .badParam)
  | some h =>
    match s.txq.entries[h] with
    | none => (s, answerOf .noSuch)
    | some e => (s, doneWith (entryBytes e))

/-- READ FRAME: the head of URGENT, or else of NORMAL (R122). -/
def cmdReadFrame : Effect := fun s =>
  match s.rxp.urgent, s.rxp.normal with
  | r :: rest, _ => (judgeFill (setPool (poolWithoutUrgent r rest s.rxp) s), doneWith (recordBytes true r))
  | [], r :: rest =>
    (judgeFill (setPool (poolWithoutNormal s.stc.config r rest s.rxp) s), doneWith (recordBytes false r))
  | [], [] => (s, answerOf .empty)

/-- The records of both lanes. -/
def recordCount (p : ReceivePool) : Nat := p.urgent.length + p.normal.length

/-- FLUSH POOL; of an empty pool it changes nothing (R124). -/
def cmdFlushPool : Effect := fun s =>
  if recordCount s.rxp = 0 then (s, doneWith [0])
  else (judgeFill (setPool ReceivePool.afterReset s), doneWith [byteOf (recordCount s.rxp)])

/-- The entry that a removed completion notice names becomes FREE; an informational notice names none (R74, R173). -/
def freeEntry (n : Notice) (s : State) : State :=
  if n.kind.isCompletion then
    match handleOf n.subject with
    | some h => setEntry h none s
    | none => s
  else s

/-- READ NOTICE (R173). -/
def cmdReadNotice : Effect := fun s =>
  match s.notices with
  | [] => (s, answerOf .empty)
  | n :: rest => (freeEntry n { s with notices := rest }, doneWith (noticeBytes n))

/-- READ PEER (R98). -/
def cmdReadPeer (station : Byte) : Effect := fun s =>
  match recordOf station with
  | none => (s, answerOf .badParam)
  | some p => (s, doneWith (peerBytes s.ptb.records[p]))

/-- READ COUNTERS: the counts are copied and cleared (R176). -/
def cmdReadCounters : Effect := fun s => ({ s with counters := Counters.zero }, doneWith (counterBytes s.counters))

/-- A command byte that names no command (R165). -/
def cmdUnknown : Effect := fun s => (s, answerOf .unknownCommand)

/-- The effect of each host command. -/
def effectOf : HostCommand → Effect
  | .nop => cmdNop
  | .readStatus => cmdReadStatus
  | .setField id value => cmdSetField id value
  | .getField id => cmdGetField id
  | .join => cmdJoin
  | .leave => cmdLeave
  | .softReset => cmdSoftReset
  | .submit dest length payload => cmdSubmit dest length payload
  | .cancel handle => cmdCancel handle
  | .queryEntry handle => cmdQueryEntry handle
  | .readFrame => cmdReadFrame
  | .flushPool => cmdFlushPool
  | .readNotice => cmdReadNotice
  | .readPeer station => cmdReadPeer station
  | .readCounters => cmdReadCounters
  | .unknown _ => cmdUnknown

end Sys2Proof.Machine
end

