-- ==== Sys2Proof/Machine/HostPort.lean ====
section
/-! DEFINITION. The transaction on the host port, bit by bit (R161 to R167), and the commands of the table that are events
on its pins: HCS_FALL, HCS_RISE, HCK_EDGE. -/

namespace Sys2Proof.Machine

/-- The port replaced. -/
def setPort (p : HostPort) (s : State) : State := { s with hpt := p }

/-- HDO driven, or left at high impedance. -/
def setHdo (l : PinLevel) (s : State) : State := { s with pins := { s.pins with hdo := l } }

/-! ### Execution (R162, R165) -/

/-- The port after a command has executed: ANSWERING, or SPENT for an unknown command, whose one answer byte is clocked
out all the same (R162, R165; log entry 10). -/
def portAfter : HostCommand → PortState
  | .unknown _ => .spent
  | _ => .answering

/-- A command executes: its effect, and its answer ready to be clocked out (R162, R163). -/
def executeCommand (c : HostCommand) (effect : Effect) (s : State) : State :=
  let r := effect s
  setPort { r.1.hpt with port := portAfter c, taken := commandBytes c, bits := [], answer := r.2, outBits := 0 } r.1

/-- The port is taking a command or its parameters. -/
def PortState.isTaking : PortState → Bool
  | .takingCommand => true
  | .takingParameters => true
  | _ => false

/-- The bits taken so far are the beginning of this command's (R161, R162). -/
def beginsCommand (c : HostCommand) (p : HostPort) : Bool :=
  (bitsOfBytes p.taken ++ p.bits).isPrefixOf (bitsOfBytes (commandBytes c))

/-- The host can complete this command in the transaction in progress (log entry 9). -/
def portTakes (c : HostCommand) (s : State) : Bool :=
  portLive s && s.hpt.port.isTaking && c.wellFormed && beginsCommand c s.hpt

/-- A row of the table that names a host command: the host clocks in the rest of its bits, and at the last of them the
command executes (R162). Where the port takes no bits of it, nothing happens (log entry 9). -/
def onPort (c : HostCommand) (effect : Effect) (s : State) : State :=
  if portTakes c s then executeCommand c effect s else s

/-! ### Clocking (R161) -/

/-- A rising HCK edge while a command is taken: one more bit of HDI, and at the eighth a byte, which may complete a
command (R161, R162). -/
def takeBit (hdi : Bool) (s : State) : State :=
  let bits := s.hpt.bits ++ [hdi]
  if bits.length < 8 then setPort { s.hpt with bits := bits } s
  else
    let taken := s.hpt.taken ++ [byteOf (numberOfBits bits)]
    match readCommand taken with
    | some c => executeCommand c (effectOf c) s
    | none => setPort { s.hpt with port := .takingParameters, taken := taken, bits := [] } s

/-- The port after a rising HCK edge while an answer is clocked out: at the eighth of a byte the byte is gone, and after
the last byte the port is SPENT (R161, R163; log entry 19). -/
def HostPort.afterOutBit (p : HostPort) : HostPort :=
  match p.answer with
  | [] => p
  | _ :: rest =>
    if p.outBits < 7 then { p with outBits := p.outBits + 1 }
    else { p with answer := rest, outBits := 0, port := if rest.isEmpty then .spent else p.port }

/-- A rising HCK edge, by transaction state (R161). -/
def clockRise (hdi : Bool) (s : State) : State :=
  match s.hpt.port with
  | .deselected => s
  | .takingCommand => takeBit hdi s
  | .takingParameters => takeBit hdi s
  | .answering => setPort s.hpt.afterOutBit s
  | .spent => setPort s.hpt.afterOutBit s
  | .waitingDeselect => s

/-- The bit HDO shows: the answer's, most significant first, and 1 when there is none (R161). -/
def HostPort.outBit (p : HostPort) : Bool :=
  match p.answer with
  | [] => true
  | b :: _ => b.getLsbD (7 - p.outBits)

/-- A falling HCK edge, by transaction state: HDO shows its next bit (R161). -/
def clockFall (s : State) : State :=
  match s.hpt.port with
  | .deselected => s
  | .takingCommand => setHdo .high s
  | .takingParameters => setHdo .high s
  | .answering => setHdo (if s.hpt.outBit then .high else .low) s
  | .spent => setHdo (if s.hpt.outBit then .high else .low) s
  | .waitingDeselect => s

/-! ### The pins -/

/-- The port DESELECTED, with nothing taken and nothing to answer, and HDO at high impedance (R161, R164). -/
def deselect (s : State) : State :=
  setHdo .highImpedance
    (setPort { s.hpt with port := .deselected, taken := [], bits := [], answer := [], outBits := 0, softResetDue := false } s)

/-- The end of a transaction: an executed SOFT RESET takes effect, and the port is DESELECTED (R164, R166). -/
def endTransaction (lrx : Bool) (s : State) : State :=
  deselect (if s.hpt.softResetDue then softReset lrx s else s)

/-- HCS falls: a transaction begins if the port is DESELECTED (R161). In reset, or without VIO, only the level is kept. -/
def fallHcs (s : State) : State :=
  let s' : State := { s with pins := { s.pins with hcsHigh := false } }
  if portLive s && s.hpt.port = .deselected then setHdo .high (setPort { s.hpt with port := .takingCommand } s') else s'

/-- HCS rises: the transaction ends, and WAITING_DESELECT becomes DESELECTED (R164, R167). -/
def riseHcs (lrx : Bool) (s : State) : State :=
  let s' : State := { s with pins := { s.pins with hcsHigh := true } }
  if portLive s then endTransaction lrx s' else s'

/-- HCS_FALL (R161). -/
def execHcsFall (s : State) : Host.Outcome State Fault Refusal :=
  .next (settleAttn (if s.pins.hcsHigh then fallHcs s else s))

/-- HCS_RISE (R164, R166, R167). -/
def execHcsRise (lrx : Bool) (s : State) : Host.Outcome State Fault Refusal :=
  .next (settleAttn (if s.pins.hcsHigh then s else riseHcs lrx s))

/-- HCK_EDGE (R161, R162): edges are ignored while HCS is high, in WAITING_DESELECT, in reset and without VIO. -/
def execHckEdge (rising hdi : Bool) (s : State) : Host.Outcome State Fault Refusal :=
  .next (settleAttn (if portLive s then (if rising then clockRise hdi s else clockFall s) else s))

end Sys2Proof.Machine
end

