-- ==== Sys2Proof/Machine/CommandRows.lean ====
section
/-! DEFINITION. The commands of the table that name a host command executing (R162): one meaning each. -/

namespace Sys2Proof.Machine

/-- NOP (R163). -/
def execNop (s : State) : Host.Outcome State Fault Refusal := .next (settleAttn (onPort .nop cmdNop s))

/-- READ_STATUS (R168). -/
def execReadStatus (s : State) : Host.Outcome State Fault Refusal :=
  .next (settleAttn (onPort .readStatus cmdReadStatus s))

/-- SET_FIELD (R145). -/
def execSetField (id : Byte) (value : List Byte) (s : State) : Host.Outcome State Fault Refusal :=
  .next (settleAttn (onPort (.setField id value) (cmdSetField id value) s))

/-- GET_FIELD (R146). -/
def execGetField (id : Byte) (s : State) : Host.Outcome State Fault Refusal :=
  .next (settleAttn (onPort (.getField id) (cmdGetField id) s))

/-- JOIN (R147 to R149). -/
def execJoin (s : State) : Host.Outcome State Fault Refusal := .next (settleAttn (onPort .join cmdJoin s))

/-- LEAVE (R156). -/
def execLeave (s : State) : Host.Outcome State Fault Refusal := .next (settleAttn (onPort .leave cmdLeave s))

/-- SOFT_RESET (R166). -/
def execSoftReset (s : State) : Host.Outcome State Fault Refusal :=
  .next (settleAttn (onPort .softReset cmdSoftReset s))

/-- SUBMIT (R55, R56). -/
def execSubmit (dest length : Byte) (payload : List Byte) (s : State) : Host.Outcome State Fault Refusal :=
  .next (settleAttn (onPort (.submit dest length payload) (cmdSubmit dest length payload) s))

/-- CANCEL (R69). -/
def execCancel (handle : Byte) (s : State) : Host.Outcome State Fault Refusal :=
  .next (settleAttn (onPort (.cancel handle) (cmdCancel handle) s))

/-- QUERY_ENTRY (R71). -/
def execQueryEntry (handle : Byte) (s : State) : Host.Outcome State Fault Refusal :=
  .next (settleAttn (onPort (.queryEntry handle) (cmdQueryEntry handle) s))

/-- READ_FRAME (R122). -/
def execReadFrame (s : State) : Host.Outcome State Fault Refusal :=
  .next (settleAttn (onPort .readFrame cmdReadFrame s))

/-- FLUSH_POOL (R124). -/
def execFlushPool (s : State) : Host.Outcome State Fault Refusal :=
  .next (settleAttn (onPort .flushPool cmdFlushPool s))

/-- READ_NOTICE (R173). -/
def execReadNotice (s : State) : Host.Outcome State Fault Refusal :=
  .next (settleAttn (onPort .readNotice cmdReadNotice s))

/-- READ_PEER (R98). -/
def execReadPeer (station : Byte) (s : State) : Host.Outcome State Fault Refusal :=
  .next (settleAttn (onPort (.readPeer station) (cmdReadPeer station) s))

/-- READ_COUNTERS (R176). -/
def execReadCounters (s : State) : Host.Outcome State Fault Refusal :=
  .next (settleAttn (onPort .readCounters cmdReadCounters s))

/-- UNKNOWN_COMMAND (R165). -/
def execUnknownCommand (code : Byte) (s : State) : Host.Outcome State Fault Refusal :=
  .next (settleAttn (onPort (.unknown code) cmdUnknown s))

end Sys2Proof.Machine
end

