-- ==== Sys2Proof/Machine/IdleEvents.lean ====
section
/-! DEFINITION. The idle-time events (R21): IDLE_GAP_LIMIT, REPLY_START, REPLY_WINDOW_END, SLOT_OPENING,
LISTENING_ROUND_END. Each moves the idle time to its value (log entry 7) and acts at its one recipient. -/

namespace Sys2Proof.Machine

/-- The idle-time event of value `k` at one recipient. It is not raised while the idle time is held or once it has passed
`k` (R21). -/
def atIdle (k : Nat) (act : State → State) (s : State) : State :=
  if idleReaches k s then act (setIdle k s) else s

/-- The Reply Unit at idle time 2 (R82). -/
def replyStarts (s : State) : State :=
  match s.rpu.pending with
  | some r => if r.sending then s else sendReply r s
  | none => s

/-- The Reply Unit at idle time W: a wait in OPEN ends NO_REPLY (R87, R88). -/
def windowEnds (s : State) : State :=
  match s.rpu.wait with
  | some w => if w.candidate then s else afterWait s (endWait w .noReply s)
  | none => s

/-- The transmit request for a chosen frame: taken (R41, R60), or refused with BUSY, which changes nothing (R42, R60). -/
def requestFrame (c : CurrentFrame) (s : State) : State :=
  if requestTaken s then
    chosenTaken c
      (setLine (lineWithRequest (chosenBytes s c) (newOwnFrame (chosenKind c) (chosenJoining c) .transmitQueue) s.lif) s)
  else s

/-- A slot opening: the Transmit Queue is asked for a frame; if it gives none the slot passes (R40, R41, R58, R59). -/
def slotOpens (s : State) : State :=
  match chooseFrame s with
  | some c => requestFrame c s
  | none => s

/-- The Access Ladder at an idle-time event: a slot opening if the value is on its schedule (R38, R39). -/
def ladderAtIdle (s : State) : State :=
  if isSlotOpening s.stc.config s.lastSender s.lif.idle then slotOpens s else s

/-- Station Control at an idle-time event: in LISTENING, at the listening round or above, ANNOUNCING (R151). -/
def listeningAtIdle (s : State) : State :=
  match s.stc.station, s.stc.listeningRound with
  | .listening, some round => if round ≤ s.lif.idle then enterAnnouncing s else s
  | _, _ => s

/-- IDLE_GAP_LIMIT (R10, R12). -/
def execIdleGapLimit (s : State) : Host.Outcome State Fault Refusal :=
  .next (settleAttn (atIdle Config.gapEvent receiveGap s))

/-- REPLY_START (R82). -/
def execReplyStart (s : State) : Host.Outcome State Fault Refusal :=
  .next (settleAttn (atIdle Config.replyEvent replyStarts s))

/-- REPLY_WINDOW_END (R87). -/
def execReplyWindowEnd (s : State) : Host.Outcome State Fault Refusal :=
  .next (settleAttn (atIdle s.stc.config.replyWindow windowEnds s))

/-- SLOT_OPENING (R38 to R43). -/
def execSlotOpening (idle : Nat) (s : State) : Host.Outcome State Fault Refusal :=
  .next (settleAttn (atIdle idle ladderAtIdle s))

/-- LISTENING_ROUND_END (R151). -/
def execListeningRoundEnd (idle : Nat) (s : State) : Host.Outcome State Fault Refusal :=
  .next (settleAttn (atIdle idle listeningAtIdle s))

end Sys2Proof.Machine
end

