-- ==== Sys2Proof/Machine/Supply.lean ====
section
/-! DEFINITION. NRESET and the supplies (R182 to R184): HARDWARE_RESET, NRESET_RELEASE, VDD_OUT_OF_RANGE, VDD_RETURN,
VIO_FALL, VIO_RETURN. -/

namespace Sys2Proof.Machine

/-- NRESET as the part takes it. -/
def setNreset (low : Bool) (s : State) : State := { s with pins := { s.pins with nresetLow := low } }

/-- VDD within range, or not. -/
def setVdd (ok : Bool) (s : State) : State := { s with pins := { s.pins with vddOk := ok } }

/-- VIO within range, or not. -/
def setVio (ok : Bool) (s : State) : State := { s with pins := { s.pins with vioOk := ok } }

/-- The part goes from running into reset (R182, R183): every block takes its hardware-reset values at once. A part in reset
already stays as it is. -/
def intoReset (before after : State) : State := if running before then hardReset false after else after

/-- The part comes out of reset once VDD is within range and NRESET is high (R182, R183). -/
def outOfReset (lrx : Bool) (s : State) : State := if running s then releaseReset lrx s else s

/-- NRESET taken low; a second fall during the reset changes nothing (R182). NRESET is read whatever VIO is (R183; log entry 33). -/
def nresetFalls (s : State) : State := if s.pins.nresetLow then s else intoReset s (setNreset true s)

/-- NRESET rises; after a low level that was not taken it is ignored (R182). NRESET is read whatever VIO is (R183; log
entry 33). -/
def nresetRises (lrx : Bool) (s : State) : State :=
  if s.pins.nresetLow then outOfReset lrx (setNreset false s) else s

/-- VDD leaves its range: a hardware reset at once (R183). -/
def vddFalls (s : State) : State := if s.pins.vddOk then intoReset s (setVdd false s) else s

/-- VDD comes back (R183). -/
def vddReturns (lrx : Bool) (s : State) : State := if s.pins.vddOk then s else outOfReset lrx (setVdd true s)

/-- VIO leaves its range: taken as a rise of HCS (R183). -/
def vioFalls (lrx : Bool) (s : State) : State :=
  if s.pins.vioOk then setVio false (if running s then endTransaction lrx s else s) else s

/-- VIO comes back: DESELECTED if HCS reads high, WAITING_DESELECT if it reads low (R183). -/
def vioReturns (s : State) : State :=
  if s.pins.vioOk then s
  else
    let s' := setVio true s
    if running s then setPort { s.hpt with port := if s.pins.hcsHigh then .deselected else .waitingDeselect } s' else s'

/-- HARDWARE_RESET (R182). -/
def execHardwareReset (s : State) : Host.Outcome State Fault Refusal := .next (settleAttn (nresetFalls s))

/-- NRESET_RELEASE (R182). -/
def execNresetRelease (lrx : Bool) (s : State) : Host.Outcome State Fault Refusal :=
  .next (settleAttn (nresetRises lrx s))

/-- VDD_OUT_OF_RANGE (R183). -/
def execVddOutOfRange (s : State) : Host.Outcome State Fault Refusal := .next (settleAttn (vddFalls s))

/-- VDD_RETURN (R183). -/
def execVddReturn (lrx : Bool) (s : State) : Host.Outcome State Fault Refusal :=
  .next (settleAttn (vddReturns lrx s))

/-- VIO_FALL (R183). -/
def execVioFall (lrx : Bool) (s : State) : Host.Outcome State Fault Refusal := .next (settleAttn (vioFalls lrx s))

/-- VIO_RETURN (R183). -/
def execVioReturn (s : State) : Host.Outcome State Fault Refusal := .next (settleAttn (vioReturns s))

end Sys2Proof.Machine
end

