-- ==== Sys2Proof/Machine/Timers.lean ====
section
/-! DEFINITION. The tick and the expiries of the slow timers (R17, R18): TICK, SILENCE_TIMER_EXPIRY, PAUSE_TIMER_EXPIRY,
BEACON_TIMER_EXPIRY, REFRESH_TIMER_EXPIRY, DELIVERY_TIMER_EXPIRY. A tick event that brings a timer to 0 is its expiry, and
its owner acts at it (R18); the expiry commands are that tick event at one timer, and change nothing at a timer that it does
not bring to 0, such as one just reloaded (R18; log entry 8). -/

namespace Sys2Proof.Machine

/-- The tick base wraps, a bit-time boundary passing where it stood elsewhere (R16; log entry 23), and the tick event goes to
every block that holds a slow timer (R17, R18). -/
def tickEvent (s : State) : State :=
  let s := if s.lif.tickBase = 0 then s else takeBitTime s
  tickDelivery (tickRefresh (tickBeacon (tickRecords (setLine { s.lif with tickBase := 0 } s))))

/-- The silence timer of a record expires, if a tick event brings it to 0; one reloaded first does not (R18, R100, R101). -/
def silenceExpires (p : Fin 32) (s : State) : State :=
  if timerExpires s.ptb.records[p].silence then expirePeer s.ptb.records s p else s

/-- The pause timer of a record expires, if a tick event brings it to 0; one reloaded first does not (R18, R103, R105). A
silence timer that the same tick event brings to 0 expires with it, and the peer is lost (R105). -/
def pauseExpires (p : Fin 32) (s : State) : State :=
  if timerExpires s.ptb.records[p].pauseTimer then expirePeer s.ptb.records s p else s

/-- The beacon timer expires, if a tick event brings it to 0; one reloaded first does not (R18, R111). -/
def beaconTimerEnds (s : State) : State := if timerExpires s.ptb.beaconTimer then beaconExpires s else s

/-- The refresh timer expires, if a tick event brings it to 0; one reloaded or stopped first does not (R18, R140). -/
def refreshTimerEnds (s : State) : State := if timerExpires s.cgm.refreshTimer then refreshExpires s else s

/-- The delivery timer expires, if a tick event brings it to 0; one reloaded or stopped first does not (R18, R128). -/
def deliveryTimerEnds (s : State) : State := if timerExpires s.rxp.deliveryTimer then deliveryExpires s else s

/-- TICK (R17, R18). -/
def execTick (s : State) : Host.Outcome State Fault Refusal := .next (settleAttn (whenRunning tickEvent s))

/-- SILENCE_TIMER_EXPIRY (R100). -/
def execSilenceTimerExpiry (p : Fin 32) (s : State) : Host.Outcome State Fault Refusal :=
  .next (settleAttn (whenRunning (silenceExpires p) s))

/-- PAUSE_TIMER_EXPIRY (R105). -/
def execPauseTimerExpiry (p : Fin 32) (s : State) : Host.Outcome State Fault Refusal :=
  .next (settleAttn (whenRunning (pauseExpires p) s))

/-- BEACON_TIMER_EXPIRY (R111). -/
def execBeaconTimerExpiry (s : State) : Host.Outcome State Fault Refusal :=
  .next (settleAttn (whenRunning beaconTimerEnds s))

/-- REFRESH_TIMER_EXPIRY (R140). -/
def execRefreshTimerExpiry (s : State) : Host.Outcome State Fault Refusal :=
  .next (settleAttn (whenRunning refreshTimerEnds s))

/-- DELIVERY_TIMER_EXPIRY (R128). -/
def execDeliveryTimerExpiry (s : State) : Host.Outcome State Fault Refusal :=
  .next (settleAttn (whenRunning deliveryTimerEnds s))

end Sys2Proof.Machine
end

