-- ==== Sys2Proof/Machine/Dispatch.lean ====
section
/-! DEFINITION. The meaning of each command: one arm for each row of spec/opcode_table.json. -/

namespace Sys2Proof.Machine

def exec (i : Instr) (s : State) : Host.Outcome State Fault Refusal :=
  match i with
  | .hcsFall => Sys2Proof.Machine.execHcsFall s
  | .hcsRise lrx => Sys2Proof.Machine.execHcsRise lrx s
  | .nop => Sys2Proof.Machine.execNop s
  | .readStatus => Sys2Proof.Machine.execReadStatus s
  | .setField id value => Sys2Proof.Machine.execSetField id value s
  | .getField id => Sys2Proof.Machine.execGetField id s
  | .join => Sys2Proof.Machine.execJoin s
  | .leave => Sys2Proof.Machine.execLeave s
  | .softReset => Sys2Proof.Machine.execSoftReset s
  | .submit dest length payload => Sys2Proof.Machine.execSubmit dest length payload s
  | .cancel handle => Sys2Proof.Machine.execCancel handle s
  | .queryEntry handle => Sys2Proof.Machine.execQueryEntry handle s
  | .readFrame => Sys2Proof.Machine.execReadFrame s
  | .flushPool => Sys2Proof.Machine.execFlushPool s
  | .readNotice => Sys2Proof.Machine.execReadNotice s
  | .readPeer station => Sys2Proof.Machine.execReadPeer station s
  | .readCounters => Sys2Proof.Machine.execReadCounters s
  | .unknownCommand code => Sys2Proof.Machine.execUnknownCommand code s
  | .hardwareReset => Sys2Proof.Machine.execHardwareReset s
  | .nresetRelease lrx => Sys2Proof.Machine.execNresetRelease lrx s
  | .vddOutOfRange => Sys2Proof.Machine.execVddOutOfRange s
  | .vddReturn lrx => Sys2Proof.Machine.execVddReturn lrx s
  | .vioFall lrx => Sys2Proof.Machine.execVioFall lrx s
  | .vioReturn => Sys2Proof.Machine.execVioReturn s
  | .startBit => Sys2Proof.Machine.execStartBit s
  | .startBitGlitch => Sys2Proof.Machine.execStartBitGlitch s
  | .characterComplete value stopBit => Sys2Proof.Machine.execCharacterComplete value stopBit s
  | .holdingRelease => Sys2Proof.Machine.execHoldingRelease s
  | .idleGapLimit => Sys2Proof.Machine.execIdleGapLimit s
  | .replyStart => Sys2Proof.Machine.execReplyStart s
  | .replyWindowEnd => Sys2Proof.Machine.execReplyWindowEnd s
  | .slotOpening idle => Sys2Proof.Machine.execSlotOpening idle s
  | .listeningRoundEnd idle => Sys2Proof.Machine.execListeningRoundEnd idle s
  | .echoLoss => Sys2Proof.Machine.execEchoLoss s
  | .ldeRelease => Sys2Proof.Machine.execLdeRelease s
  | .tick => Sys2Proof.Machine.execTick s
  | .silenceTimerExpiry p => Sys2Proof.Machine.execSilenceTimerExpiry p s
  | .pauseTimerExpiry p => Sys2Proof.Machine.execPauseTimerExpiry p s
  | .beaconTimerExpiry => Sys2Proof.Machine.execBeaconTimerExpiry s
  | .refreshTimerExpiry => Sys2Proof.Machine.execRefreshTimerExpiry s
  | .deliveryTimerExpiry => Sys2Proof.Machine.execDeliveryTimerExpiry s
  | .receiverArmed => Sys2Proof.Machine.execReceiverArmed s
  | .hckEdge rising hdi => Sys2Proof.Machine.execHckEdge rising hdi s
  | .ltxStartBit => Sys2Proof.Machine.execLtxStartBit s
  | .lastStopBitEnd => Sys2Proof.Machine.execLastStopBitEnd s

end Sys2Proof.Machine
end

