-- ==== Sys2Proof/Safety.lean ====
section
/-! DEFINITION. What a sound state of the part is: the laws of the device that the spec's rules own, block by block, each a
predicate on State in the terms that statements use. -/

namespace Sys2Proof.Machine

/-! ### Configuration (R144) -/

/-- Every field of the configuration record lies in its range (R144, R117). -/
structure ConfigLaw (c : ConfigRecord) : Prop where
  ownNumber : c.ownNumber ≤ 31
  ladderSize : 2 ≤ c.ladderSize ∧ c.ladderSize ≤ 32
  divisor : 1 ≤ c.divisor ∧ c.divisor ≤ 4095
  slotWidth : 2 ≤ c.slotWidth ∧ c.slotWidth ≤ 15
  replyWindow : 4 ≤ c.replyWindow ∧ c.replyWindow ≤ 24
  retryLimit : 1 ≤ c.retryLimit ∧ c.retryLimit ≤ 15
  collisionLimit : 1 ≤ c.collisionLimit ∧ c.collisionLimit ≤ 15
  highMark : 2 ≤ c.highMark ∧ c.highMark ≤ 48
  lowMark : 1 ≤ c.lowMark ∧ c.lowMark ≤ 47
  pauseHold : 4 ≤ c.pauseHold ∧ c.pauseHold ≤ 4095
  presenceTimeout : 8 ≤ c.presenceTimeout ∧ c.presenceTimeout ≤ 4095
  deliveryThreshold : 1 ≤ c.deliveryThreshold ∧ c.deliveryThreshold ≤ 48
  deliveryTimeout : c.deliveryTimeout ≤ 255
  watches : ∀ i : Fin 4, ∀ n, c.watches[i].source = some n → n ≤ 31

/-! ### Receive Pool (R114, R116) -/

/-- The blocks of the records of a lane. -/
def laneBlocks (rs : List Record) : Nat := (rs.map Record.blocks).sum

/-- The fill is the sum of the blocks of the records in the two lanes and never exceeds 48 (R114); the records of URGENT,
and those alone, carry a watch index (R115, R118). -/
structure PoolLaw (p : ReceivePool) : Prop where
  fill_sum : p.fill = laneBlocks p.urgent + laneBlocks p.normal
  fill_le : p.fill ≤ 48
  urgent_watch : ∀ r ∈ p.urgent, r.watch.isSome = true
  normal_watch : ∀ r ∈ p.normal, r.watch = none

/-! ### Notice queue (R72, R172) -/

/-- At most 16 informational notices wait; and the completion notices stand one for one with the COMPLETE entries, each
naming its entry's handle and outcome (R72, R172). -/
structure NoticeLaw (s : State) : Prop where
  informational : informationalCount s.notices ≤ 16
  distinct : (s.notices.filter fun n => n.kind.isCompletion).Nodup
  named : ∀ n ∈ s.notices, n.kind.isCompletion = true →
    ∃ (h : Fin 16) (e : Entry) (o : EntryOutcome),
      s.txq.entries[h] = some e ∧ e.state = .complete o ∧ n = completionNotice h o
  queued : ∀ (h : Fin 16) (e : Entry) (o : EntryOutcome),
    s.txq.entries[h] = some e → e.state = .complete o → completionNotice h o ∈ s.notices

/-! ### Peer Table (R97, R112) -/

/-- A record carries a pause timer exactly when it is paused and a silence timer exactly while PRESENT, a paused record is
PRESENT, and a running timer holds 1..4095 ticks (R97). -/
structure PeerLaw (r : Peer) : Prop where
  pause_timer : r.pauseTimer.isSome = r.paused
  silence_timer : r.silence.isSome = r.present
  paused_present : r.paused = true → r.present = true
  pause_range : ∀ n, r.pauseTimer = some n → 1 ≤ n ∧ n ≤ 4095
  silence_range : ∀ n, r.silence = some n → 1 ≤ n ∧ n ≤ 4095

/-- Every record keeps the law of R97. -/
def PeersLaw (s : State) : Prop := ∀ p : Fin 32, PeerLaw s.ptb.records[p]

/-- In UNJOINED the table is cleared, and in the other states every record that is not in use is (R97, R112, R113). -/
structure TableLaw (s : State) : Prop where
  unjoined : s.stc.station = .unjoined → s.ptb = PeerTable.cleared
  unused : ∀ p : Fin 32, recordInUse s p = false → s.ptb.records[p] = Peer.cleared

/-! ### Congestion Monitor (R132, R134, R140, R142) -/

/-- While CONGESTED the fill is above the low mark in force and while NORMAL below the high mark; a pending PAUSE stands
only while CONGESTED and a pending RESUME only while NORMAL (R134); outside ACTIVE the flag is clear, nothing is pending and
the refresh timer stopped (R132, R142); the timer runs only while CONGESTED with the flag set (R140). -/
structure MonitorLaw (s : State) : Prop where
  marks : 1 ≤ s.cgm.lowMark ∧ s.cgm.lowMark < s.cgm.highMark ∧ s.cgm.highMark ≤ 48
  congested_above : s.cgm.congested = true → s.cgm.lowMark < s.rxp.fill
  normal_below : s.cgm.congested = false → s.rxp.fill < s.cgm.highMark
  pause_congested : s.cgm.announcement = some .pause → s.cgm.congested = true
  resume_normal : s.cgm.announcement = some .resume → s.cgm.congested = false ∧ s.cgm.announced = true
  inactive : s.stc.station ≠ .active →
    s.cgm.announced = false ∧ s.cgm.announcement = none ∧ s.cgm.refreshTimer = none
  refresh_runs : s.cgm.refreshTimer.isSome = true → s.cgm.congested = true ∧ s.cgm.announced = true
  refresh_range : ∀ n, s.cgm.refreshTimer = some n → 1 ≤ n ∧ n ≤ 2047

/-! ### Access Ladder and Station Control (R30, R35, R148, R152) -/

/-- Last sender is UNKNOWN or below N, and UNKNOWN in UNJOINED; a joined station's number is below N; the listening round is
present exactly in LISTENING, at G0 + N·S (R30, R35, R148, R152). -/
structure LadderLaw (s : State) : Prop where
  below : ∀ n, s.lastSender = some n → n < s.stc.config.ladderSize
  unjoined : s.stc.station = .unjoined → s.lastSender = none
  own_below : s.stc.station ≠ .unjoined → s.stc.config.ownNumber < s.stc.config.ladderSize
  listening : s.stc.listeningRound =
    if s.stc.station = .listening then
      some (s.stc.config.replyWindow + 4 + s.stc.config.ladderSize * s.stc.config.slotWidth)
    else none

/-! ### Transmit Queue (R52, R54, R58, R65, R97) -/

/-- An entry's destination is all stations, or a station of the ladder other than this one (R52, R55). -/
def destinationKnown (c : ConfigRecord) (dest : Byte) : Prop :=
  dest = 255 ∨ (dest.toNat < c.ladderSize ∧ dest.toNat ≠ c.ownNumber)

/-- What holds of an entry that is neither FREE nor COMPLETE: its counts stand below their limits (R65), its destination is
one SUBMIT takes (R55), HELD says that its destination is paused and WAITING that it is not (R54, R97), and it has a sequence
once it has been on the line (R52). -/
structure LiveEntryLaw (s : State) (e : Entry) : Prop where
  attempts : e.attempts < s.stc.config.retryLimit
  collisions : e.collisions < s.stc.config.collisionLimit
  destination : destinationKnown s.stc.config e.dest
  held : e.state = .held → destPaused s e.dest = true
  waiting : e.state = .waiting → destPaused s e.dest = false
  sequence : e.state.inFlight = true → e.seq.isSome = true

/-- The laws of the queue: an entry in flight is the current frame, so that there is at most one, and the current frame, if an
entry, is in flight (R52, R58); entries live in the station states that allow it (R75, R76, R156, R157); an entry awaits its
reply exactly while the reply wait holds its handle, destination and sequence (R78, R86); and a frame on the line that the
queue chose is the current frame, one of the Reply Unit's the pending reply being sent (R22, R52, R78). -/
structure QueueLaw (s : State) : Prop where
  live : ∀ (h : Fin 16) (e : Entry), s.txq.entries[h] = some e → e.state.isComplete = false → LiveEntryLaw s e
  in_flight : ∀ h : Fin 16, entryIs s.txq EntryState.inFlight h = true → s.txq.current = some (.entry h)
  current : ∀ h : Fin 16, s.txq.current = some (.entry h) → entryIs s.txq EntryState.inFlight h = true
  unjoined : s.stc.station = .unjoined →
    ∀ (h : Fin 16) (e : Entry), s.txq.entries[h] = some e → e.state.isComplete = true
  early : s.stc.station = .listening ∨ s.stc.station = .announcing → anyInFlight s.txq = false
  leaving : s.stc.station = .leaving →
    anyInFlight s.txq = true ∧ ∀ h : Fin 16, entryIs s.txq EntryState.isQueued h = false
  awaiting : ∀ (h : Fin 16) (e : Entry), s.txq.entries[h] = some e → e.state = .awaitingReply →
    e.dest ≠ 255 ∧ ∃ w, s.rpu.wait = some w ∧ w.handle = h ∧ w.dest = e.dest ∧ e.seq = some w.seq
  wait : ∀ w, s.rpu.wait = some w → ∃ e, s.txq.entries[w.handle] = some e ∧ e.state = .awaitingReply
  chosen : ∀ o, s.lif.own = some o → o.requester = .transmitQueue →
    ∃ c, s.txq.current = some c ∧ o.kind = chosenKind c ∧ o.joining = chosenJoining c ∧
      ∀ h, c = .entry h → entryIs s.txq (fun st => decide (st = .onLine)) h = true
  reply : ∀ o, s.lif.own = some o → o.requester = .replyUnit →
    o.kind = .ack ∧ ∃ r, s.rpu.pending = some r ∧ r.sending = true

/-! ### Line Interface (R20, R22 to R27) -/

/-- The laws of the Line Interface: LDE is asserted exactly while the transmitter is not OFF (R22, R23); a frame in progress
is one whose comparison is OPEN or whose LDE is still asserted (R27); the echo list holds at most four characters, is empty
once the comparison is judged, and not empty in TRAILING or OFF while it is OPEN (R24 to R26); a character is in transmission
exactly in SENDING; and the idle time is held at 0 exactly while a character is received, LRX is held, or LRX has read 0 in
UNARMED (R20; log entry 29). -/
structure LineLaw (l : LineInterface) : Prop where
  lde : l.lde = true ↔ l.transmitter ≠ .off
  absent : l.own = none → l.transmitter = .off
  ended : l.transmitter = .off → ∀ o, l.own = some o → o.comparison = .opened
  echo_le : l.echo.length ≤ 4
  judged : ∀ o, l.own = some o → o.comparison ≠ .opened → l.echo = []
  cut : ∀ o, l.own = some o → o.comparison = .collided ∨ o.comparison = .echoLost → l.toSend = []
  lead : l.transmitter = .lead → l.echo = [] ∧ ∀ o, l.own = some o → o.comparison = .opened
  all_begun : l.transmitter = .trailing ∨ l.transmitter = .off → l.toSend = []
  awaited : l.transmitter = .trailing ∨ l.transmitter = .off →
    ∀ o, l.own = some o → o.comparison = .opened → l.echo ≠ []
  sending : l.sending.isSome = true ↔ l.transmitter = .sending
  armed : l.receiver = .armed ∨ l.receiver = .unarmed true → l.idleCounting = true
  receiving : ∀ lde d, l.receiver = .inCharacter lde d → l.idleCounting = false ∧ l.idle = 0
  holding : l.receiver = .holding → l.idleCounting = false ∧ l.idle = 0
  unarmed : l.receiver = .unarmed false → l.idleCounting = false ∧ l.idle = 0
  tick_base : l.tickBase < 256

/-! ### Frame Receiver (R7 to R11) -/

/-- The fields of a frame taken so far, in frame order: the characters its running check covers (R5). -/
def Assembly.covered (a : Assembly) : List Byte :=
  a.kind.toList ++ a.dest.toList ++ a.source.toList ++ a.seq.toList ++ a.length.toList ++ a.payload

/-- A frame being assembled has taken its fields in order, its running check is the check of them, its length and destination
have passed their checks, it counts the characters still to come, and only an own-marked frame is marked as one that goes on
after a collision of the own frame (R5, R9, R50). -/
structure AssemblyLaw (a : Assembly) : Prop where
  check : a.check = checkOf a.covered
  collided : a.collided = true → a.ownMark = true
  kind_known : ∀ k, a.kind = some k → (frameKindOf (kindCode k)).isSome = true
  dest_after : a.dest.isSome = true → a.kind.isSome = true
  source_after : a.source.isSome = true → a.dest.isSome = true
  seq_after : a.seq.isSome = true → a.source.isSome = true
  length_after : a.length.isSome = true → a.seq.isSome = true
  before_length : a.length = none → a.payload = [] ∧ a.checkHigh = none
  length_passed : ∀ n, a.length = some n → n.toNat ≤ 60 ∧
    (∀ k, a.kind = some k → frameKindOf (kindCode k) ≠ some .data → n = 0) ∧
    (∀ d, a.dest = some d → d.toNat ≤ 31 ∨ d = 255)
  to_come : ∀ n, a.length = some n →
    (a.checkHigh = none → 2 ≤ a.toCome ∧ a.payload.length + a.toCome = n.toNat + 2) ∧
    (a.checkHigh ≠ none → a.toCome = 1 ∧ a.payload.length = n.toNat)

/-- The Frame Receiver's frame, if any, keeps the law of assembly. -/
def ReceiverLaw (s : State) : Prop := ∀ a, s.frx = .inFrame a → AssemblyLaw a

/-- No payload is longer than 60 bytes: of a record in the pool, or of an entry in the queue (R52, R115). -/
structure PayloadLaw (s : State) : Prop where
  records : ∀ r ∈ s.rxp.urgent ++ s.rxp.normal, r.payload.length ≤ 60
  entries : ∀ (h : Fin 16) (e : Entry), s.txq.entries[h] = some e → e.payload.length ≤ 60

/-! ### Host Port, counters, ATTN (R161, R163, R175, R177) -/

/-- While the port is powered and out of reset, DESELECTED is HCS high; otherwise the port is DESELECTED or WAITING_DESELECT;
these two hold no byte and no answer; a byte in progress has fewer than eight bits; a command being taken is not complete yet,
and nothing is answered; in ANSWERING an answer is left to clock out; and a soft reset is due only once its command has
executed (R161 to R167). -/
structure PortLaw (s : State) : Prop where
  deselected : portLive s = true → (s.hpt.port = .deselected ↔ s.pins.hcsHigh = true)
  unpowered : portLive s = false → s.hpt.port = .deselected ∨ s.hpt.port = .waitingDeselect
  idle : s.hpt.port = .deselected ∨ s.hpt.port = .waitingDeselect →
    s.hpt.taken = [] ∧ s.hpt.bits = [] ∧ s.hpt.answer = [] ∧ s.hpt.outBits = 0
  command : s.hpt.port = .takingCommand → s.hpt.taken = [] ∧ s.hpt.answer = [] ∧ s.hpt.outBits = 0
  parameters : s.hpt.port = .takingParameters →
    s.hpt.taken ≠ [] ∧ readCommand s.hpt.taken = none ∧ s.hpt.answer = [] ∧ s.hpt.outBits = 0
  bits : s.hpt.bits.length < 8
  answering : s.hpt.port = .answering → s.hpt.answer ≠ []
  answer_bits : s.hpt.outBits < 8 ∧ (s.hpt.answer = [] → s.hpt.outBits = 0)
  reset_due : s.hpt.softResetDue = true → s.hpt.port = .answering ∨ s.hpt.port = .spent

/-- No statistics counter is above 65535 (R175). -/
def CountersLaw (c : Counters) : Prop := ∀ n ∈ c.values, n ≤ 65535

/-- ATTN is asserted exactly while the part is out of reset with VIO within range and at least one of the four causes holds
with its mask flag on: a notice waits, URGENT holds a record, NORMAL holds as many records as the delivery threshold, the stale
flag is set (R126, R177, R183, R184). -/
def AttnLaw (s : State) : Prop :=
  s.hpt.attn = true ↔
    s.pins.vddOk = true ∧ s.pins.nresetLow = false ∧ s.pins.vioOk = true ∧
      ((s.notices ≠ [] ∧ s.stc.config.attnMask.notices = true) ∨
        (s.rxp.urgent ≠ [] ∧ s.stc.config.attnMask.urgent = true) ∨
        (s.stc.config.deliveryThreshold ≤ s.rxp.normal.length ∧ s.stc.config.attnMask.threshold = true) ∨
        (s.rxp.stale = true ∧ s.stc.config.attnMask.stale = true))

/-! ### Terms that statements share -/

/-- The state `s` once the host command `c` has executed with these answer bytes: the port is ANSWERING, with the whole answer
left to clock out (R162, R163). -/
def answered (c : HostCommand) (answer : List Byte) (s : State) : State :=
  { s with hpt := { s.hpt with port := .answering, taken := commandBytes c, bits := [], answer := answer, outBits := 0 } }

/-- One more on a counter, which stays at 65535 (R175). -/
def oneMore (n : Nat) : Nat := if n < 65535 then n + 1 else n

/-- `t` has the notice queue and the counters of `s` after this notice was offered (R172). -/
def NoticeOffered (n : Notice) (s t : State) : Prop :=
  if n.kind.isCompletion = true ∨ informationalCount s.notices < 16 then
    t.notices = s.notices ++ [n] ∧ t.counters = s.counters
  else t.notices = s.notices ∧ t.counters = { s.counters with noticesLost := oneMore s.counters.noticesLost }

/-- `t` has the notice queue and the counters of `s`. -/
def NothingReported (s t : State) : Prop := t.notices = s.notices ∧ t.counters = s.counters

/-- `t` has the monitor `m`, and the notices of `s`, after the fill of `t` was judged (R134, R135). -/
def FillJudged (m : CongestionMonitor) (s t : State) : Prop :=
  if m.congested = true then
    if t.rxp.fill ≤ m.lowMark then
      t.cgm = { m with congested := false, refreshTimer := none,
                       announcement := if m.announced = true ∧ t.stc.station = .active then some .resume
                         else if m.announcement = some .pause then none else m.announcement } ∧
        NoticeOffered { kind := .relieved, subject := byteOf t.rxp.fill, detail := 0 } s t
    else t.cgm = m ∧ NothingReported s t
  else if m.highMark ≤ t.rxp.fill then
    t.cgm = { m with congested := true,
                     announcement := if m.announcement = some .resume then none
                       else if m.announcement = some .pause then some .pause
                       else if t.stc.station = .active then some .pause else none,
                     refreshTimer := if m.announcement = some .resume then some (max 2 (t.stc.config.pauseHold / 2))
                       else m.refreshTimer } ∧
      NoticeOffered { kind := .congested, subject := byteOf t.rxp.fill, detail := 0 } s t
  else t.cgm = m ∧ NothingReported s t

/-- The state `s` at a bit-time boundary: with no own frame in progress the Line Interface takes the record's divisor
(R16). -/
def atBoundary (s : State) : State :=
  { s with lif := { s.lif with
      divisor := if s.lif.own = none then s.stc.config.divisor else s.lif.divisor,
      startDivisor := if s.lif.own = none then s.stc.config.divisor else s.lif.startDivisor } }

/-- The state `s` when the idle time is `k` (R20, R21): a bit-time boundary has passed if it was below (R16; log entry 23). -/
def atIdleTime (k : Nat) (s : State) : State :=
  let b := if s.lif.idle < k then atBoundary s else s
  { b with lif := { b.lif with idle := k } }

/-- The state `s` once a character has been received: the receiver in ARMED and the idle time counting from 0, or, after a
framing error, the receiver in HOLDING and the idle time held (R19, R20). -/
def characterHeard (stopBit : Bool) (s : State) : State :=
  { s with lif := { s.lif with receiver := if stopBit = true then .armed else .holding, idle := 0, idleCounting := stopBit } }

/-- Last sender after a claim that makes it UNKNOWN, which is not taken in UNJOINED (R32, R33, R35). -/
def senderLost (s : State) : Option Nat := if s.stc.station = .unjoined then s.lastSender else none

/-- The pending reply, unless it is in DECIDED and so abandoned (R83). -/
def replyKept (s : State) : Option PendingReply := s.rpu.pending.filter fun r => r.sending

/-- The state in which an entry to this destination waits: HELD where the destination's record is paused, else WAITING; a
broadcast, or a number above 31, has no record (R54, R97). -/
def waitingState (s : State) (dest : Byte) : EntryState :=
  if ∃ p : Fin 32, dest = byteOf p.val ∧ s.ptb.records[p].paused = true then .held else .waiting

/-- The entry as a return to the queue leaves it: HELD if its destination is paused, else WAITING (R61, R62, R65). -/
def returned (s : State) (e : Entry) : Entry := { e with state := waitingState s e.dest }

/-- An entry after record `p` became paused: HELD, if it was WAITING and its destination is that peer (R67). -/
def heldBy (p : Fin 32) (e : Entry) : Entry :=
  if e.dest = byteOf p.val ∧ e.state = .waiting then { e with state := .held } else e

/-- An entry after record `p` became unpaused: WAITING, if it was HELD and its destination is that peer (R68). -/
def releasedBy (p : Fin 32) (e : Entry) : Entry :=
  if e.dest = byteOf p.val ∧ e.state = .held then { e with state := .waiting } else e

/-- The table with record `p` replaced. -/
def setRecord (p : Fin 32) (r : Peer) (table : PeerTable) : PeerTable := { table with records := table.records.set p r }

/-- The queue with the entry of handle `h` replaced; `none` is FREE. -/
def setSlot (h : Fin 16) (e : Option Entry) (q : TransmitQueue) : TransmitQueue := { q with entries := q.entries.set h e }

/-- The entries of `t` are those of `s`, with this done to every one that is not FREE. -/
def EntriesMapped (f : Entry → Entry) (s t : State) : Prop :=
  ∀ h : Fin 16, t.txq.entries[h] = (s.txq.entries[h]).map f

/-- An entry as LEAVE leaves it: COMPLETE with FAILED_WITHDRAWN, if it was WAITING or HELD (R75). -/
def withdrawn (e : Entry) : Entry :=
  if e.state.isQueued = true then { e with state := .complete .failedWithdrawn } else e

/-- An entry's age: the submission counter minus its submission number, modulo 2^32 (R53). -/
def ageOf (s : State) (e : Entry) : Nat := (s.txq.submissions.toNat + 2 ^ 32 - e.number.toNat) % 2 ^ 32

/-- These are the handles of the WAITING and HELD entries, each once, oldest first (R53, R75). -/
def QueuedOldestFirst (s : State) (order : List (Fin 16)) : Prop :=
  (∀ h : Fin 16, h ∈ order ↔ ∃ e, s.txq.entries[h] = some e ∧ (e.state = .waiting ∨ e.state = .held)) ∧ order.Nodup ∧
    order.Pairwise fun h h' => ∀ e e' : Entry, s.txq.entries[h] = some e → s.txq.entries[h'] = some e' →
      ageOf s e' ≤ ageOf s e

/-- The FAILED notices of these handles, in their order, with detail WITHDRAWN (R72, R75). -/
def withdrawalNotices (order : List (Fin 16)) : List Notice :=
  order.map fun h => { kind := .failed, subject := byteOf h.val, detail := 3 }

/-- Bits clocked in on the host port one by one: a rising HCK edge for each, with that bit on HDI (R161). -/
def clockIn : List Bool → State → State
  | [], s => s
  | b :: rest, s =>
    match exec (.hckEdge true b) s with
    | .next t => clockIn rest t
    | .fault _ => s
    | .refused _ => s

/-- A frame's characters after its lead, each with a good stop bit, taken by the assembly; none where one fails a check or
ends the frame (R9). -/
def assembleAll : Assembly → List Byte → Option Assembly
  | a, [] => some a
  | a, b :: rest =>
    match takeCharacter a b true with
    | .goesOn a' => assembleAll a' rest
    | .fails _ => none
    | .failsAtEnd _ => none
    | .passes => none

/-- `v` is `s` after the claims that a good frame makes, ahead of the Reply Unit, when its source is not the own number and it
is no PAUSE, RESUME or joining BEACON: the count of good frames, last sender and LEARNED (R31, R150), the presence of its
source (R99), or, from a source of N or above, LADDER_MISMATCH (R15, R33). -/
def HeardFrom (f : GoodFrame) (s v : State) : Prop :=
  let counted : State := { s with frx := .awaitSync, counters := { s.counters with goodFrames := oneMore s.counters.goodFrames } }
  if s.stc.station = .unjoined then v = counted
  else if f.source.toNat < s.stc.config.ladderSize then
    ∀ p : Fin 32, f.source = byteOf p.val →
      v = { counted with
        lastSender := if f.kind = .ack then s.lastSender else some p.val,
        stc := if f.kind ≠ .ack ∧ s.stc.station = .listening then
            { s.stc with station := .announcing, listeningRound := none } else s.stc,
        txq := if f.kind ≠ .ack ∧ s.stc.station = .listening then { s.txq with beacon := .joining } else s.txq,
        ptb := setRecord p { s.ptb.records[p] with present := true, silence := some s.stc.config.presenceTimeout } s.ptb,
        notices := v.notices, counters := v.counters } ∧
      if s.ptb.records[p].present = true then NothingReported counted v
      else NoticeOffered { kind := .peerFound, subject := byteOf p.val, detail := 0 } counted v
  else if f.kind = .ack then v = counted
  else v = { counted with lastSender := none, notices := v.notices, counters := v.counters } ∧
    NoticeOffered { kind := .ladderMismatch, subject := f.source, detail := byteOf f.kind.code } counted v

/-- The part after a hardware reset (R7, R29, R30, R77, R78, R113, R131, R143, R144, R167, R175, R182): every block at its
reset value, the record at its defaults, the marks at 36 and 24, ATTN released. `lrx`: LRX reads 1 at the end, and the idle
time then counts (R20). The port stands as HCS says. -/
def afterHardReset (lrx : Bool) (s : State) : State :=
  { s with
    pins := { s.pins with hdo := .highImpedance },
    lif := { divisor := 13, startDivisor := 13, tickBase := 0, receiver := .unarmed lrx, idle := 0, idleCounting := lrx,
             transmitter := .off, lde := false, bitTimer := 0, sending := none, toSend := [], echo := [], own := none },
    frx := .draining,
    lastSender := none,
    txq := { entries := Vector.replicate 16 none, submissions := 0, broadcastSeq := 0, beacon := .none, current := none },
    rpu := { pending := none, wait := none },
    ptb := PeerTable.cleared,
    rxp := { urgent := [], normal := [], fill := 0, deliveryTimer := none, stale := false },
    cgm := { congested := false, announced := false, announcement := none, refreshTimer := none, highMark := 36,
             lowMark := 24 },
    stc := { station := .unjoined, config := ConfigRecord.defaults, listeningRound := none },
    hpt := { port := if s.pins.hcsHigh = true then .deselected else .waitingDeselect,
             taken := [], bits := [], answer := [], outBits := 0, softResetDue := false, attn := false },
    notices := [],
    counters := Counters.zero }

/-- The part after a soft reset (R160, R166): as after a hardware reset, but that the record and the marks in force are kept,
the bit time is the record's, and the port is DESELECTED. LRX reads 1 in ARMED and in UNARMED with LRX at 1 since the last
reset, 0 in HOLDING, and elsewhere as `lrx` says (R19, R20; log entry 2). -/
def afterSoftReset (lrx : Bool) (s : State) : State :=
  let t := afterHardReset
    (if s.lif.receiver = .armed ∨ s.lif.receiver = .unarmed true then true
      else if s.lif.receiver = .holding then false else lrx) s
  { t with lif := { t.lif with divisor := s.stc.config.divisor, startDivisor := s.stc.config.divisor },
           cgm := { t.cgm with highMark := s.cgm.highMark, lowMark := s.cgm.lowMark },
           stc := { t.stc with config := s.stc.config },
           hpt := { t.hpt with port := .deselected } }

/-- No comparison is open, and no own frame ends with the next character (R24, R27). -/
def NotComparing (l : LineInterface) : Prop := ∀ o, l.own = some o → o.comparison ≠ .opened ∧ l.transmitter ≠ .off

/-- The next character, of this value and with a good stop bit, is the last of the good frame `f`, which is not own-marked
(R11, R13), and no comparison is open. -/
def EndsGoodFrame (value : Byte) (f : GoodFrame) (s : State) : Prop :=
  running s = true ∧ NotComparing s.lif ∧ (∃ lde d, s.lif.receiver = .inCharacter lde d) ∧
    ∃ a, s.frx = .inFrame a ∧ a.ownMark = false ∧ takeCharacter a value true = .passes ∧ goodFrameOf a = some f

/-- The next character, of this value and with a good stop bit, is the last of the good frame `f`, which is own-marked and has
survived a collision with the station's own frame (R13, R49, R50), and no comparison is open. -/
def EndsSurvivingFrame (value : Byte) (f : GoodFrame) (s : State) : Prop :=
  running s = true ∧ NotComparing s.lif ∧ (∃ lde d, s.lif.receiver = .inCharacter lde d) ∧
    ∃ a, s.frx = .inFrame a ∧ a.ownMark = true ∧ a.collided = true ∧ takeCharacter a value true = .passes ∧
      goodFrameOf a = some f

/-- The reply wait `w` of `v` ends with NO_REPLY, its entry `e` in AWAITING_REPLY and the station not LEAVING: `u` is `v`
with the wait absent, the count of no-replies up by one, the current frame cleared and one more attempt on the entry, which
completes at the retry limit and else returns to the queue (R65, R90). -/
def EndsNoReply (w : ReplyWait) (e : Entry) (v u : State) : Prop :=
  let tried := { e with attempts := e.attempts + 1 }
  let failed : Bool := v.stc.config.retryLimit ≤ e.attempts + 1
  u = { v with
    rpu := { v.rpu with wait := none },
    counters := { v.counters with noReplies := oneMore v.counters.noReplies },
    txq := { setSlot w.handle (some (if failed = true then { tried with state := .complete .failedNoReply }
      else returned v tried)) v.txq with current := none },
    notices := if failed = true then v.notices ++ [{ kind := .failed, subject := byteOf w.handle.val, detail := 1 }]
      else v.notices }

/-- LEAVE completion: `u` is `v` in UNJOINED, with last sender UNKNOWN, the pending beacon NONE, the table cleared and LEFT
offered (R35, R113, R158). -/
def Leaves (v u : State) : Prop :=
  u = { v with lastSender := none, txq := { v.txq with beacon := .none }, ptb := PeerTable.cleared,
               stc := { v.stc with station := .unjoined, listeningRound := none },
               notices := u.notices, counters := u.counters } ∧
    NoticeOffered { kind := .left, subject := 0, detail := 0 } v u

/-- LEAVE completion from LEAVING, the entry in flight having completed with this notice: `v` has taken the outcome already but
for the notice (R157, R158). -/
def LeavesAfter (n : Notice) (v u : State) : Prop := Leaves { v with notices := v.notices ++ [n] } u

/-- The reply wait `w` of `v` ends with NO_REPLY, its entry `e` in AWAITING_REPLY: as `EndsNoReply`, or in LEAVING with the
entry withdrawn, its attempt counted, and the station in UNJOINED (R65, R75, R90, R157, R158). -/
def EndsWithoutReply (w : ReplyWait) (e : Entry) (v u : State) : Prop :=
  if v.stc.station = .leaving then
    LeavesAfter { kind := .failed, subject := byteOf w.handle.val, detail := 3 }
      { v with
        rpu := { v.rpu with wait := none },
        counters := { v.counters with noReplies := oneMore v.counters.noReplies },
        txq := { setSlot w.handle (some { e with attempts := e.attempts + 1, state := .complete .failedWithdrawn }) v.txq with
          current := none } } u
  else EndsNoReply w e v u

/-- These notices were offered one after the other, from `s` to `t` (R172). -/
def OfferedInOrder : List Notice → State → State → Prop
  | [], s, t => NothingReported s t
  | n :: rest, s, t => ∃ v : State, NoticeOffered n s v ∧ OfferedInOrder rest v t

/-- The notice is the Congestion Monitor's (R171). -/
def Notice.isMonitors (n : Notice) : Prop := n.kind = .congested ∨ n.kind = .relieved

/-- `m` has the notices that lead from `s` to `r`, and this one of the Transmit Queue's among them, where R171 puts it: after
the notices of the Frame Receiver and the Peer Table, and before those of the Congestion Monitor. -/
def NoticeAdded (n : Notice) (s r m : State) : Prop :=
  ∃ before after : List Notice,
    r.notices = s.notices ++ (before ++ after) ∧ m.notices = s.notices ++ (before ++ n :: after) ∧
    (∀ x ∈ before, ¬ x.isMonitors) ∧ ∀ x ∈ after, x.isMonitors

/-- The state `s` once LDE is released and the own frame, its comparison judged, is absent (R23, R27). -/
def ownFrameGone (s : State) : State :=
  { s with lif := { s.lif with transmitter := .off, lde := false, bitTimer := 0, sending := none, own := none } }

/-- What the Transmit Queue does when an own frame ends ECHO_LOST, from `b`: its queue becomes `q` and it gives these notices.
A frame of the Reply Unit's is none of its own; an announcement or a beacon is no longer current; an entry returns to the queue
with its counts, or in LEAVING is withdrawn (R59, R62, R75). -/
def QueueTakesEchoLoss (own : OwnFrame) (b : State) (q : TransmitQueue) (ns : List Notice) : Prop :=
  (own.requester = .replyUnit ∧ q = b.txq ∧ ns = []) ∨
  (own.requester = .transmitQueue ∧
      ((∃ a, b.txq.current = some (.announcement a)) ∨ ∃ j, b.txq.current = some (.beacon j)) ∧
      q = { b.txq with current := none } ∧ ns = []) ∨
  (∃ (h : Fin 16) (e : Entry), own.requester = .transmitQueue ∧ b.txq.current = some (.entry h) ∧
      b.txq.entries[h] = some e ∧ e.state = .onLine ∧
      q = { setSlot h (some (if b.stc.station = .leaving then { e with state := .complete .failedWithdrawn }
        else returned b e)) b.txq with current := none } ∧
      ns = if b.stc.station = .leaving then [{ kind := .failed, subject := byteOf h.val, detail := 3 }] else [])

/-- `u` is `b`, whose own frame is gone, once its outcome ECHO_LOST has been taken: last sender UNKNOWN but in UNJOINED (R34,
R35), the pending reply that was being sent absent (R84), the queue `q` with its notices, and, in LISTENING, ANNOUNCING, ACTIVE
and LEAVING, the station HALTED with its notice and the monitor's announcement, flag and refresh timer cleared (R142, R154). -/
def EndsEchoLost (own : OwnFrame) (q : TransmitQueue) (ns : List Notice) (b u : State) : Prop :=
  let taken : State := { b with
    lastSender := senderLost b,
    txq := q,
    rpu := if own.requester = .replyUnit then { b.rpu with pending := b.rpu.pending.filter fun r => !r.sending } else b.rpu,
    notices := b.notices ++ ns }
  if b.stc.station = .unjoined ∨ b.stc.station = .halted then u = taken
  else
    u = { taken with
      cgm := { b.cgm with announcement := none, announced := false, refreshTimer := none },
      stc := { b.stc with station := .halted, listeningRound := none },
      notices := u.notices, counters := u.counters } ∧
    NoticeOffered { kind := .halted, subject := byteOf b.stc.station.code, detail := byteOf own.kind.code } taken u

/-- The load of the beacon timer: max(2, presence timeout / 4) ticks (R110). -/
def beaconLoaded (s : State) : PeerTable := { s.ptb with beaconTimer := some (max 2 (s.stc.config.presenceTimeout / 4)) }

/-- A transmit request has been taken with these characters: the driver is on, in LEAD, and the comparison OPEN (R22). -/
def requested (bytes : List Byte) (kind : FrameKind) (joining : Bool) (requester : Requester) (l : LineInterface) :
    LineInterface :=
  { l with transmitter := .lead, lde := true, bitTimer := 0, sending := none, toSend := bytes, echo := [],
           own := some { kind := kind, joining := joining, requester := requester, comparison := .opened } }

/-- The entry may be chosen at a slot opening: it is WAITING, and no older entry to its destination is unfinished (R58). -/
def Choosable (s : State) (h : Fin 16) (e : Entry) : Prop :=
  s.txq.entries[h] = some e ∧ e.state = .waiting ∧
    ∀ (h' : Fin 16) (e' : Entry), s.txq.entries[h'] = some e' → e'.state.isComplete = false → e'.dest = e.dest →
      ageOf s e' ≤ ageOf s e

/-! ### What a step keeps -/

/-- A law holds after a step from every state in which it holds. -/
def KeptByStep (Law : State → Prop) : Prop :=
  ∀ s t : State, Law s → step s = .next t → Law t

end Sys2Proof.Machine
end

