-- ==== Sys2Proof/WellFormed.lean ====
section
/-! DEFINITION. Which commands are well formed: the parameters of a host command have the number of bytes it takes on the
port (R162), an unknown command's byte names no command (R165), and an idle-time event carries a value of 1 or more (R21). -/

namespace Sys2Proof

/-- The host command that a row of the table names, if it names one. -/
def Instr.hostCommand : Instr → Option Machine.HostCommand
  | .nop => some .nop
  | .readStatus => some .readStatus
  | .setField id value => some (.setField id value)
  | .getField id => some (.getField id)
  | .join => some .join
  | .leave => some .leave
  | .softReset => some .softReset
  | .submit dest length payload => some (.submit dest length payload)
  | .cancel handle => some (.cancel handle)
  | .queryEntry handle => some (.queryEntry handle)
  | .readFrame => some .readFrame
  | .flushPool => some .flushPool
  | .readNotice => some .readNotice
  | .readPeer station => some (.readPeer station)
  | .readCounters => some .readCounters
  | .unknownCommand code => some (.unknown code)
  | .hcsFall => none
  | .hcsRise _ => none
  | .hardwareReset => none
  | .nresetRelease _ => none
  | .vddOutOfRange => none
  | .vddReturn _ => none
  | .vioFall _ => none
  | .vioReturn => none
  | .startBit => none
  | .startBitGlitch => none
  | .characterComplete _ _ => none
  | .holdingRelease => none
  | .idleGapLimit => none
  | .replyStart => none
  | .replyWindowEnd => none
  | .slotOpening _ => none
  | .listeningRoundEnd _ => none
  | .echoLoss => none
  | .ldeRelease => none
  | .tick => none
  | .silenceTimerExpiry _ => none
  | .pauseTimerExpiry _ => none
  | .beaconTimerExpiry => none
  | .refreshTimerExpiry => none
  | .deliveryTimerExpiry => none
  | .receiverArmed => none
  | .hckEdge _ _ => none
  | .ltxStartBit => none
  | .lastStopBitEnd => none

/-- The idle time that an event's operand names, if it has one (R21). -/
def Instr.idleOperand : Instr → Option Nat
  | .slotOpening k => some k
  | .listeningRoundEnd k => some k
  | _ => none

/-- A command is well formed. -/
def Instr.wellFormed (i : Instr) : Bool :=
  (match i.hostCommand with | some c => c.wellFormed | none => true)
    && (match i.idleOperand with | some k => 1 ≤ k | none => true)

end Sys2Proof
end

