-- ==== Sys2Proof/Certificates/Slice0/Obligations.lean ====
section
/-! DEFINITION. The statements for the provers. -/

open Sys2Proof Sys2Proof.Machine

/-! ### The step and every command -/

/-- A step takes the command at the front of the queue and is exec of it on the state with the queue's rest. -/
def Obligations.StepTakesFrontCommand : Prop :=
  ∀ (c : Instr) (rest : List Instr) (s : State),
    step { s with pending := c :: rest } = exec c { s with pending := rest }

/-- Log entry 3: with no command waiting, a running part lets one bit time pass. The bit time, the tick base, the idle time
and the counts of transmitter and echo list move on (R16, R17, R20, R23, R26), the events due at the new boundary join the
queue, each once, and nothing else changes. A part in reset stays as it is (R182). The order of the events is free, and a slot
opening of any position joins, for the Access Ladder to judge when it is taken (R39; log entry 4). A receiver in UNARMED whose
LRX has read 1 since the reset, as far as the queue's commands tell, is ARMED (log entry 29). -/
def Obligations.EmptyQueueLetsBitTimePass : Prop :=
  ∀ s : State, s.pending = [] →
    (running s = false → step s = .next s) ∧
    (running s = true → ∃ t, step s = .next t ∧
      t = { s with lif := t.lif, choices := t.choices, pending := t.pending } ∧
      t.lif = { s.lif with
        divisor := if s.lif.own = none then s.stc.config.divisor else s.lif.divisor,
        startDivisor := if s.lif.own = none then s.stc.config.divisor else s.lif.startDivisor,
        tickBase := if s.lif.tickBase + 1 < 256 then s.lif.tickBase + 1 else 0,
        idle := if s.lif.idleCounting = true then s.lif.idle + 1 else s.lif.idle,
        bitTimer := if s.lif.transmitter = .off then s.lif.bitTimer else s.lif.bitTimer + 1,
        echo := s.lif.echo.map fun c => { c with elapsed := c.elapsed + 1 } } ∧
      t.pending.Nodup ∧
      (∀ c : Instr, c ∈ t.pending ↔
        (c = .tick ∧ t.lif.tickBase = 0) ∨
        (t.lif.idleCounting = true ∧
          ((c = .idleGapLimit ∧ t.lif.idle = 7) ∨
            (c = .replyStart ∧ t.lif.idle = 2) ∨
            (c = .replyWindowEnd ∧ t.lif.idle = t.stc.config.replyWindow) ∨
            (c = .slotOpening t.lif.idle ∧ t.stc.config.replyWindow + 4 ≤ t.lif.idle ∧
              (t.lif.idle - (t.stc.config.replyWindow + 4)) % t.stc.config.slotWidth = 0) ∨
            (c = .listeningRoundEnd t.lif.idle ∧ ∃ round, t.stc.listeningRound = some round ∧ round ≤ t.lif.idle))) ∨
        (c = .ltxStartBit ∧ ((t.lif.transmitter = .lead ∧ 1 ≤ t.lif.bitTimer) ∨
          (t.lif.transmitter = .sending ∧ 10 ≤ t.lif.bitTimer ∧ t.lif.toSend ≠ []))) ∨
        (c = .lastStopBitEnd ∧ t.lif.transmitter = .sending ∧ 10 ≤ t.lif.bitTimer ∧ t.lif.toSend = []) ∨
        (c = .ldeRelease ∧ t.lif.transmitter = .trailing ∧ 1 ≤ t.lif.bitTimer) ∨
        (c = .echoLoss ∧ (∃ o, t.lif.own = some o ∧ o.comparison = .opened) ∧
          ∃ e rest, t.lif.echo = e :: rest ∧ 30 ≤ e.elapsed) ∨
        (c = .receiverArmed ∧ t.lif.receiver = .unarmed true)))

/-- Every command answers a next state: it leaves the commands that wait as they are, and once it is done ATTN is asserted
exactly where, out of reset and with VIO in range, one of its four causes holds with its mask flag on (R177, R178, R183). -/
def Obligations.EveryCommandCompletesWithAttnSettled : Prop :=
  ∀ (c : Instr) (s : State), ∃ t, exec c s = .next t ∧ t.pending = s.pending ∧ AttnLaw t

/-- Log entry 6: an event whose condition does not hold in the state is not raised: the part in reset (R182), a receiver state
that does not fit (R19), a timer that is stopped or that no tick event brings to 0 yet, such as one reloaded just before its
expiry (R18, R101, R103, R111, R128, R140; log entry 8), an idle time that is held or has passed the value (R21), a transmitter
that is elsewhere (R23, R25, R26), an echo list that has no room for another character (R24; log entry 30), or a frame that is
not cut while LDE's release is named in SENDING (R23; log entry 12). Then the command changes nothing but ATTN's level. -/
def Obligations.EventNotRaisedChangesNothing : Prop :=
  ∀ s : State,
    (running s = false → ∀ value stop,
      exec .startBit s = .next (settleAttn s) ∧ exec .startBitGlitch s = .next (settleAttn s) ∧
      exec (.characterComplete value stop) s = .next (settleAttn s) ∧ exec .holdingRelease s = .next (settleAttn s) ∧
      exec .receiverArmed s = .next (settleAttn s) ∧ exec .ltxStartBit s = .next (settleAttn s) ∧
      exec .lastStopBitEnd s = .next (settleAttn s) ∧ exec .ldeRelease s = .next (settleAttn s) ∧
      exec .echoLoss s = .next (settleAttn s) ∧ exec .tick s = .next (settleAttn s) ∧
      exec .beaconTimerExpiry s = .next (settleAttn s) ∧ exec .refreshTimerExpiry s = .next (settleAttn s) ∧
      exec .deliveryTimerExpiry s = .next (settleAttn s) ∧
      ∀ p, exec (.silenceTimerExpiry p) s = .next (settleAttn s) ∧ exec (.pauseTimerExpiry p) s = .next (settleAttn s)) ∧
    ((s.lif.receiver = .holding ∨ ∃ lde d, s.lif.receiver = .inCharacter lde d) →
      exec .startBit s = .next (settleAttn s)) ∧
    (s.lif.receiver ≠ .holding → exec .holdingRelease s = .next (settleAttn s)) ∧
    ((∀ b, s.lif.receiver ≠ .unarmed b) → exec .receiverArmed s = .next (settleAttn s)) ∧
    ((∀ lde d, s.lif.receiver ≠ .inCharacter lde d) →
      exec .startBitGlitch s = .next (settleAttn s) ∧
      ∀ value stop, exec (.characterComplete value stop) s = .next (settleAttn s)) ∧
    (let goesOn : Option Nat → Prop := fun timer => ∀ n, timer = some n → 2 ≤ n;
      (∀ p : Fin 32, goesOn s.ptb.records[p].silence → exec (.silenceTimerExpiry p) s = .next (settleAttn s)) ∧
      (∀ p : Fin 32, goesOn s.ptb.records[p].pauseTimer → exec (.pauseTimerExpiry p) s = .next (settleAttn s)) ∧
      (goesOn s.ptb.beaconTimer → exec .beaconTimerExpiry s = .next (settleAttn s)) ∧
      (goesOn s.cgm.refreshTimer → exec .refreshTimerExpiry s = .next (settleAttn s)) ∧
      (goesOn s.rxp.deliveryTimer → exec .deliveryTimerExpiry s = .next (settleAttn s))) ∧
    (∀ k, running s = false ∨ s.lif.idleCounting = false ∨ k < s.lif.idle ∨ k = 0 →
      exec (.slotOpening k) s = .next (settleAttn s) ∧ exec (.listeningRoundEnd k) s = .next (settleAttn s)) ∧
    (running s = false ∨ s.lif.idleCounting = false ∨ 7 < s.lif.idle → exec .idleGapLimit s = .next (settleAttn s)) ∧
    (running s = false ∨ s.lif.idleCounting = false ∨ 2 < s.lif.idle → exec .replyStart s = .next (settleAttn s)) ∧
    (running s = false ∨ s.lif.idleCounting = false ∨ s.stc.config.replyWindow < s.lif.idle →
      exec .replyWindowEnd s = .next (settleAttn s)) ∧
    (let cut : Prop := ∃ o, s.lif.own = some o ∧ (o.comparison = .collided ∨ o.comparison = .echoLost)
      let opened : Prop := ∃ o, s.lif.own = some o ∧ o.comparison = .opened
      (s.lif.transmitter = .off ∨ s.lif.transmitter = .trailing ∨ (cut ∧ s.lif.transmitter ≠ .sending) ∨
          (¬ cut ∧ (¬ opened ∨ s.lif.toSend = [] ∨ 4 ≤ s.lif.echo.length)) →
        exec .ltxStartBit s = .next (settleAttn s)) ∧
      (s.lif.transmitter ≠ .sending ∨ s.lif.toSend ≠ [] → exec .lastStopBitEnd s = .next (settleAttn s)) ∧
      (s.lif.transmitter = .off ∨ s.lif.transmitter = .lead ∨ (s.lif.transmitter = .sending ∧ ¬ cut) →
        exec .ldeRelease s = .next (settleAttn s)) ∧
      (¬ opened ∨ s.lif.echo = [] → exec .echoLoss s = .next (settleAttn s)))

/-- Log entry 9: a row that names a host command changes nothing but ATTN's level where the port takes no bits of that
command: it is not live, is not taking a command, or has taken other bits; or the command is not well formed. -/
def Obligations.CommandNotTakenChangesNothing : Prop :=
  ∀ (i : Instr) (c : HostCommand) (s : State), i.hostCommand = some c → portTakes c s = false →
    exec i s = .next (settleAttn s)

/-! ### The host port -/

/-- The bytes of a well-formed host command are read back as that command, no shorter beginning of them is a command, and no
other bytes are (R162, R165, R179). The command byte is the one that R162 gives the command, and its parameters follow. -/
def Obligations.CommandBytesReadBack : Prop :=
  (∀ c : HostCommand, c.wellFormed = true →
    readCommand (commandBytes c) = some c ∧
    (∀ n, n < (commandBytes c).length → readCommand ((commandBytes c).take n) = none) ∧
    ∀ bytes, readCommand bytes = some c → bytes = commandBytes c) ∧
  ∀ (a b : Byte) (p : List Byte),
    commandBytes .nop = [0x00] ∧ commandBytes .readStatus = [0x01] ∧ commandBytes (.setField a p) = 0x10 :: a :: p ∧
    commandBytes (.getField a) = [0x11, a] ∧ commandBytes .join = [0x20] ∧ commandBytes .leave = [0x21] ∧
    commandBytes .softReset = [0x2F] ∧ commandBytes (.submit a b p) = 0x30 :: a :: b :: p ∧
    commandBytes (.cancel a) = [0x31, a] ∧ commandBytes (.queryEntry a) = [0x32, a] ∧ commandBytes .readFrame = [0x40] ∧
    commandBytes .flushPool = [0x41] ∧ commandBytes .readNotice = [0x50] ∧ commandBytes (.readPeer a) = [0x60, a] ∧
    commandBytes .readCounters = [0x70] ∧ commandBytes (.unknown a) = [a]

/-- A row that names a host command stands for its bits (log entry 9): where the port takes the command, the row's next state
is that of clocking in the bits still to come, edge by edge (R161, R162). -/
def Obligations.ClockedBitsExecuteCommand : Prop :=
  ∀ (i : Instr) (c : HostCommand) (s : State) (rest : List Bool),
    i.hostCommand = some c → portTakes c s = true → PortLaw s → AttnLaw s →
    bitsOfBytes (commandBytes c) = bitsOfBytes s.hpt.taken ++ s.hpt.bits ++ rest →
    exec i s = .next (clockIn rest s)

/-- HCK edges (R161): a rising edge takes one bit of HDI, and a byte that does not complete a command leads to
TAKING_PARAMETERS (one that does is ClockedBitsExecuteCommand's); while an answer is clocked out it takes one bit off the
answer, and the last leads to SPENT (R163; log entry 19); a falling edge shows the answer's next bit on HDO, most significant
first, and 1 while a command is taken or once the answer is spent; the one byte that answers an unknown command is clocked out
so in SPENT (log entry 10). Edges in DESELECTED, WAITING_DESELECT, reset or without VIO change nothing. -/
def Obligations.HckEdgesClockThePort : Prop :=
  ∀ (s : State) (hdi : Bool),
    ((portLive s = false ∨ s.hpt.port = .deselected ∨ s.hpt.port = .waitingDeselect) →
      ∀ rising, exec (.hckEdge rising hdi) s = .next (settleAttn s)) ∧
    (portLive s = true → (s.hpt.port = .takingCommand ∨ s.hpt.port = .takingParameters) →
      (s.hpt.bits.length < 7 →
        exec (.hckEdge true hdi) s = .next (settleAttn { s with hpt := { s.hpt with bits := s.hpt.bits ++ [hdi] } })) ∧
      (∀ byte, s.hpt.bits.length = 7 → byte = byteOf (numberOfBits (s.hpt.bits ++ [hdi])) →
        readCommand (s.hpt.taken ++ [byte]) = none →
        exec (.hckEdge true hdi) s = .next (settleAttn
          { s with hpt := { s.hpt with port := .takingParameters, taken := s.hpt.taken ++ [byte], bits := [] } })) ∧
      exec (.hckEdge false hdi) s = .next (settleAttn { s with pins := { s.pins with hdo := .high } })) ∧
    (portLive s = true → (s.hpt.port = .answering ∨ s.hpt.port = .spent) →
      (s.hpt.answer = [] →
        exec (.hckEdge true hdi) s = .next (settleAttn s) ∧
        exec (.hckEdge false hdi) s = .next (settleAttn { s with pins := { s.pins with hdo := .high } })) ∧
      ∀ b rest, s.hpt.answer = b :: rest →
        exec (.hckEdge false hdi) s = .next (settleAttn
          { s with pins := { s.pins with hdo := if b.getLsbD (7 - s.hpt.outBits) = true then .high else .low } }) ∧
        (s.hpt.outBits < 7 →
          exec (.hckEdge true hdi) s = .next (settleAttn { s with hpt := { s.hpt with outBits := s.hpt.outBits + 1 } })) ∧
        (s.hpt.outBits = 7 →
          exec (.hckEdge true hdi) s = .next (settleAttn
            { s with hpt := { s.hpt with answer := rest, outBits := 0,
                                         port := if rest = [] then .spent else s.hpt.port } })))

/-- A fall of HCS begins a transaction where the port is DESELECTED (R161); a rise ends it: what was taken and what was still
to be clocked out is dropped, HDO goes to high impedance and no block is touched (R164), and WAITING_DESELECT is left (R167).
In reset or without VIO only the level is kept. -/
def Obligations.HcsEdgesBeginAndEndTransactions : Prop :=
  ∀ s : State,
    (s.pins.hcsHigh = true → portLive s = true → s.hpt.port = .deselected →
      exec .hcsFall s = .next (settleAttn { s with
        pins := { s.pins with hcsHigh := false, hdo := .high }, hpt := { s.hpt with port := .takingCommand } })) ∧
    (s.pins.hcsHigh = true → (portLive s = false ∨ s.hpt.port ≠ .deselected) →
      exec .hcsFall s = .next (settleAttn { s with pins := { s.pins with hcsHigh := false } })) ∧
    (s.pins.hcsHigh = false → exec .hcsFall s = .next (settleAttn s)) ∧
    (∀ lrx, s.pins.hcsHigh = false → portLive s = true → s.hpt.softResetDue = false →
      exec (.hcsRise lrx) s = .next (settleAttn { s with
        pins := { s.pins with hcsHigh := true, hdo := .highImpedance },
        hpt := { s.hpt with port := .deselected, taken := [], bits := [], answer := [], outBits := 0 } })) ∧
    (∀ lrx, s.pins.hcsHigh = false → portLive s = false →
      exec (.hcsRise lrx) s = .next (settleAttn { s with pins := { s.pins with hcsHigh := true } })) ∧
    (∀ lrx, s.pins.hcsHigh = true → exec (.hcsRise lrx) s = .next (settleAttn s))

/-- SOFT RESET is answered DONE in every station state and changes no block (R166); at the rise of HCS the reset takes effect:
every block takes its reset values, the record and the marks in force are kept (R143, R160), the notice queue is empty, the
counters are 0 and the port is DESELECTED. The tick base and the idle time start at 0, the idle time counting where LRX reads
1: in ARMED, in UNARMED with LRX at 1 since the last reset, or elsewhere as the event says (log entry 2). -/
def Obligations.SoftResetTakesEffectAtHcsRise : Prop :=
  ∀ s : State,
    (portTakes .softReset s = true →
      exec .softReset s =
        .next (settleAttn (answered .softReset [0x00] { s with hpt := { s.hpt with softResetDue := true } }))) ∧
    (∀ lrx, s.pins.hcsHigh = false → portLive s = true → s.hpt.softResetDue = true →
      exec (.hcsRise lrx) s =
        .next (settleAttn (afterSoftReset lrx { s with pins := { s.pins with hcsHigh := true } })))

/-! ### Host commands -/

/-- NOP is answered DONE and changes nothing (R163). READ STATUS is answered DONE with its nine items, each as it stands, the
station state by its code, and changes nothing (R168, R180). READ PEER answers DONE with the record's fields, an absent timer
or sequence as 0, and BAD_PARAM for a station of 32 or above; it changes nothing (R98, R180). -/
def Obligations.StatusAndPeerReportsChangeNothing : Prop :=
  (∀ s : State,
    (portTakes .nop s = true → exec .nop s = .next (settleAttn (answered .nop [0x00] s))) ∧
    (portTakes .readStatus s = true →
      exec .readStatus s = .next (settleAttn (answered .readStatus
        [0x00,
          if s.stc.station = .unjoined then 0 else if s.stc.station = .listening then 1
            else if s.stc.station = .announcing then 2 else if s.stc.station = .active then 3
            else if s.stc.station = .leaving then 4 else 5,
          if s.cgm.congested = true then 1 else 0, byteOf s.rxp.fill,
          byteOf s.rxp.urgent.length, byteOf s.rxp.normal.length, byteOf s.notices.length,
          byteOf (allHandles.filter fun h => s.txq.entries[h].isNone).length,
          s.lastSender.elim 255 byteOf,
          byteOf ((if s.notices = [] then 0 else 1) + (if s.rxp.urgent = [] then 0 else 2)
            + (if s.stc.config.deliveryThreshold ≤ s.rxp.normal.length then 4 else 0)
            + (if s.rxp.stale = true then 8 else 0) + (if s.hpt.attn = true then 16 else 0))] s)))) ∧
  (∀ (s : State) (b : Byte), portTakes (.readPeer b) s = true →
    (32 ≤ b.toNat → exec (.readPeer b) s = .next (settleAttn (answered (.readPeer b) [0x03] s))) ∧
    (∀ (p : Fin 32) (r : Peer), b = byteOf p.val → s.ptb.records[p] = r →
      exec (.readPeer b) s = .next (settleAttn (answered (.readPeer b)
        [0x00, if r.present = true then 1 else 0, byteOf (r.silence.getD 0 / 256), byteOf (r.silence.getD 0),
          if r.paused = true then 1 else 0, byteOf (r.pauseTimer.getD 0 / 256), byteOf (r.pauseTimer.getD 0), r.nextSeq,
          if r.lastReceived = none then 0 else 1, r.lastReceived.getD 0] s))))

/-- A command byte that names no command executes at once: it changes nothing but the port, which enters SPENT with the one
answer byte UNKNOWN_COMMAND (R165), still to be clocked out (log entry 10). -/
def Obligations.UnknownCommandIsSpent : Prop :=
  ∀ (s : State) (code : Byte), portTakes (.unknown code) s = true →
    exec (.unknownCommand code) s = .next (settleAttn { s with
      hpt := { s.hpt with port := .spent, taken := [code], bits := [], answer := [0x08], outBits := 0 } })

/-- SET FIELD is judged by station state, id and value, in that order (R145): WRONG_STATE, BAD_PARAM, BAD_PARAM, and else the
field is replaced and DONE answered. Besides the record only the delivery timeout acts on the pool's delivery timer (R129), and
the divisor on the bit time of the next start bit, unless an own frame is on the line (R16). GET FIELD answers DONE with the
field's value, in every station state, and BAD_PARAM for an id that names no field; it changes nothing (R146). -/
def Obligations.SetAndGetFieldServeTheRecord : Prop :=
  (∀ (s : State) (id : Byte) (v : List Byte), portTakes (.setField id v) s = true →
    (s.stc.station ≠ .unjoined →
      exec (.setField id v) s = .next (settleAttn (answered (.setField id v) [0x04] s))) ∧
    (s.stc.station = .unjoined → fieldOfId id = none →
      exec (.setField id v) s = .next (settleAttn (answered (.setField id v) [0x03] s))) ∧
    (∀ f, s.stc.station = .unjoined → fieldOfId id = some f → writeField s.stc.config f v = none →
      exec (.setField id v) s = .next (settleAttn (answered (.setField id v) [0x03] s))) ∧
    (∀ f c, s.stc.station = .unjoined → fieldOfId id = some f → writeField s.stc.config f v = some c →
      exec (.setField id v) s = .next (settleAttn (answered (.setField id v) [0x00] { s with
        stc := { s.stc with config := c },
        lif := if f = .divisor ∧ s.lif.own = none then { s.lif with startDivisor := c.divisor } else s.lif,
        rxp := if f = .deliveryTimeout then
            { s.rxp with deliveryTimer :=
                if c.deliveryTimeout = 0 then none
                else if s.rxp.deliveryTimer = none ∧ s.rxp.normal ≠ [] then some c.deliveryTimeout
                else s.rxp.deliveryTimer }
          else s.rxp })))) ∧
  (∀ (s : State) (id : Byte), portTakes (.getField id) s = true →
    (∀ f, fieldOfId id = some f →
      exec (.getField id) s = .next (settleAttn (answered (.getField id) (0x00 :: readField s.stc.config f) s))) ∧
    (fieldOfId id = none → exec (.getField id) s = .next (settleAttn (answered (.getField id) [0x03] s))))

/-- Ids 0x01..0x0E and 0x10..0x13 name fields, each its own, and no other id does; a value of a field's own byte count is taken
exactly when it lies in the field's range, replaces that field alone, and is then what GET FIELD reads back, but that bits 4..7
of the ATTN mask are ignored and read 0; and what GET FIELD reads of a record whose fields lie in their ranges SET FIELD takes,
leaving the record as it is (R144, R145, R146, R179). -/
def Obligations.FieldsHaveTheirRanges : Prop :=
  (∀ id : Byte, (fieldOfId id).isSome = true ↔
    (1 ≤ id.toNat ∧ id.toNat ≤ 14) ∨ (16 ≤ id.toNat ∧ id.toNat ≤ 19)) ∧
  (fieldOfId 0x01 = some .ownNumber ∧ fieldOfId 0x02 = some .ladderSize ∧ fieldOfId 0x03 = some .divisor ∧
    fieldOfId 0x04 = some .slotWidth ∧ fieldOfId 0x05 = some .replyWindow ∧ fieldOfId 0x06 = some .retryLimit ∧
    fieldOfId 0x07 = some .collisionLimit ∧ fieldOfId 0x08 = some .highMark ∧ fieldOfId 0x09 = some .lowMark ∧
    fieldOfId 0x0A = some .pauseHold ∧ fieldOfId 0x0B = some .presenceTimeout ∧
    fieldOfId 0x0C = some .deliveryThreshold ∧ fieldOfId 0x0D = some .deliveryTimeout ∧
    fieldOfId 0x0E = some .attnMask ∧ fieldOfId 0x10 = some (.watch 0) ∧ fieldOfId 0x11 = some (.watch 1) ∧
    fieldOfId 0x12 = some (.watch 2) ∧ fieldOfId 0x13 = some (.watch 3)) ∧
  (∀ (c c' : ConfigRecord) (f : FieldId) (v : List Byte), f ≠ .attnMask → v.length = f.bytes →
    writeField c f v = some c' → readField c' f = v) ∧
  (∀ (c c' : ConfigRecord) (f g : FieldId) (v : List Byte), writeField c f v = some c' → g ≠ f →
    readField c' g = readField c g) ∧
  (∀ (c : ConfigRecord) (f : FieldId), ConfigLaw c → writeField c f (readField c f) = some c) ∧
  (∀ (c : ConfigRecord) (b : Byte),
    let within : Nat → Nat → ConfigRecord → Option ConfigRecord :=
      fun lo hi c' => if lo ≤ b.toNat ∧ b.toNat ≤ hi then some c' else none
    writeField c .ownNumber [b] = within 0 31 { c with ownNumber := b.toNat } ∧
    writeField c .ladderSize [b] = within 2 32 { c with ladderSize := b.toNat } ∧
    writeField c .slotWidth [b] = within 2 15 { c with slotWidth := b.toNat } ∧
    writeField c .replyWindow [b] = within 4 24 { c with replyWindow := b.toNat } ∧
    writeField c .retryLimit [b] = within 1 15 { c with retryLimit := b.toNat } ∧
    writeField c .collisionLimit [b] = within 1 15 { c with collisionLimit := b.toNat } ∧
    writeField c .highMark [b] = within 2 48 { c with highMark := b.toNat } ∧
    writeField c .lowMark [b] = within 1 47 { c with lowMark := b.toNat } ∧
    writeField c .deliveryThreshold [b] = within 1 48 { c with deliveryThreshold := b.toNat } ∧
    writeField c .deliveryTimeout [b] = some { c with deliveryTimeout := b.toNat } ∧
    writeField c .attnMask [b] = some { c with attnMask := { notices := b.getLsbD 0, urgent := b.getLsbD 1,
                                                             threshold := b.getLsbD 2, stale := b.getLsbD 3 } } ∧
    ∀ c', writeField c .attnMask [b] = some c' → readField c' .attnMask = [b &&& 0x0F]) ∧
  (∀ (c : ConfigRecord) (hi lo : Byte),
    let n : Nat := hi.toNat * 256 + lo.toNat
    let within : Nat → ConfigRecord → Option ConfigRecord := fun low c' => if low ≤ n ∧ n ≤ 4095 then some c' else none
    writeField c .divisor [hi, lo] = within 1 { c with divisor := n } ∧
    writeField c .pauseHold [hi, lo] = within 4 { c with pauseHold := n } ∧
    writeField c .presenceTimeout [hi, lo] = within 8 { c with presenceTimeout := n }) ∧
  (∀ (c : ConfigRecord) (i : Fin 4) (e src v m : Byte),
    writeField c (.watch i) [e, src, v, m] =
      if e.toNat ≤ 1 ∧ (src.toNat ≤ 31 ∨ src = 255) then
        some { c with watches := c.watches.set i { enabled := decide (e = 1),
                                                   source := if src = 255 then none else some src.toNat,
                                                   value := v, mask := m } }
      else none)

/-- JOIN is refused outside UNJOINED with WRONG_STATE (R147), and in UNJOINED by the first cross-field check that fails, with
INVALID_CONFIG and the field's id (R149); refused, it changes nothing. One that passes is answered DONE and moves the station
to LISTENING; the listening round is fixed at G0 + N·S, last sender is UNKNOWN, and the monitor copies H and L and judges the
kept fill against them (R133, R148). -/
def Obligations.JoinChecksAndEntersListening : Prop :=
  ∀ s : State, portTakes .join s = true →
    (s.stc.station ≠ .unjoined → exec .join s = .next (settleAttn (answered .join [0x04] s))) ∧
    (s.stc.station = .unjoined → s.stc.config.ladderSize ≤ s.stc.config.ownNumber →
      exec .join s = .next (settleAttn (answered .join [0x07, 0x01] s))) ∧
    (s.stc.station = .unjoined → s.stc.config.ownNumber < s.stc.config.ladderSize →
      s.stc.config.highMark ≤ s.stc.config.lowMark →
      exec .join s = .next (settleAttn (answered .join [0x07, 0x09] s))) ∧
    (s.stc.station = .unjoined →
    s.stc.config.ownNumber < s.stc.config.ladderSize → s.stc.config.lowMark < s.stc.config.highMark →
    ∃ u, exec .join s = .next (settleAttn (answered .join [0x00] u)) ∧
      u = { s with
        lastSender := none,
        stc := { s.stc with
          station := .listening,
          listeningRound := some (s.stc.config.replyWindow + 4 + s.stc.config.ladderSize * s.stc.config.slotWidth) },
        cgm := u.cgm, notices := u.notices, counters := u.counters } ∧
      FillJudged { s.cgm with highMark := s.stc.config.highMark, lowMark := s.stc.config.lowMark } s u)

/-- LEAVE (R53, R75, R142, R156, R158). In UNJOINED and LEAVING the answer is WRONG_STATE and nothing changes. With no entry in
flight, in LISTENING, ANNOUNCING, ACTIVE or HALTED, the WAITING and HELD entries are withdrawn, oldest first, and the station
reaches UNJOINED with last sender UNKNOWN, the pending beacon NONE, the table cleared, the monitor's announcement, flag and
refresh timer cleared, and a LEFT notice after the FAILED ones. In ACTIVE with an entry in flight that entry stays, and the
station is LEAVING. -/
def Obligations.LeaveWithdrawsTheQueue : Prop :=
  ∀ s : State, portTakes .leave s = true →
    (s.stc.station = .unjoined ∨ s.stc.station = .leaving →
      exec .leave s = .next (settleAttn (answered .leave [0x04] s))) ∧
    (s.stc.station = .active →
      (∃ (h : Fin 16) (e : Entry), s.txq.entries[h] = some e ∧ (e.state = .onLine ∨ e.state = .awaitingReply)) →
      ∃ u order, exec .leave s = .next (settleAttn (answered .leave [0x00] u)) ∧
        u = { s with
          txq := { s.txq with entries := u.txq.entries },
          cgm := { s.cgm with announcement := none, announced := false, refreshTimer := none },
          stc := { s.stc with station := .leaving, listeningRound := none },
          notices := s.notices ++ withdrawalNotices order } ∧
        EntriesMapped withdrawn s u ∧ QueuedOldestFirst s order) ∧
    ((s.stc.station = .listening ∨ s.stc.station = .announcing ∨ s.stc.station = .active ∨ s.stc.station = .halted) →
    (∀ (h : Fin 16) (e : Entry), s.txq.entries[h] = some e → e.state ≠ .onLine ∧ e.state ≠ .awaitingReply) →
    ∃ u order, exec .leave s = .next (settleAttn (answered .leave [0x00] u)) ∧
      u = { s with
        lastSender := none,
        txq := { s.txq with entries := u.txq.entries, beacon := .none },
        ptb := PeerTable.cleared,
        cgm := { s.cgm with announcement := none, announced := false, refreshTimer := none },
        stc := { s.stc with station := .unjoined, listeningRound := none },
        notices := u.notices, counters := u.counters } ∧
      EntriesMapped withdrawn s u ∧ QueuedOldestFirst s order ∧
      NoticeOffered { kind := .left, subject := 0, detail := 0 }
        { s with notices := s.notices ++ withdrawalNotices order } u)

/-- SUBMIT is refused by its first failing check, station state, parameters, room, and then changes nothing (R55). One that
passes every check takes the lowest-numbered FREE entry, with the destination and payload it carries, the submission counter as
its number, no sequence and both counts 0; the counter goes up by one; the entry is HELD where its destination's record is
paused and else WAITING; and DONE is answered with its handle (R53, R56). -/
def Obligations.SubmitJudgedInOrder : Prop :=
  ∀ (s : State) (dest length : Byte) (payload : List Byte), portTakes (.submit dest length payload) s = true →
    (s.stc.station = .unjoined ∨ s.stc.station = .leaving ∨ s.stc.station = .halted →
      exec (.submit dest length payload) s = .next (settleAttn (answered (.submit dest length payload) [0x04] s))) ∧
    (s.stc.station = .listening ∨ s.stc.station = .announcing ∨ s.stc.station = .active →
      (dest.toNat = s.stc.config.ownNumber ∨ (s.stc.config.ladderSize ≤ dest.toNat ∧ dest ≠ 255) ∨ 60 < length.toNat →
        exec (.submit dest length payload) s = .next (settleAttn (answered (.submit dest length payload) [0x03] s))) ∧
      (dest.toNat ≠ s.stc.config.ownNumber → (dest.toNat < s.stc.config.ladderSize ∨ dest = 255) → length.toNat ≤ 60 →
        (∀ h : Fin 16, s.txq.entries[h] ≠ none) →
        exec (.submit dest length payload) s = .next (settleAttn (answered (.submit dest length payload) [0x02] s)))) ∧
    (∀ h : Fin 16,
      (s.stc.station = .listening ∨ s.stc.station = .announcing ∨ s.stc.station = .active) →
      dest.toNat ≠ s.stc.config.ownNumber → (dest.toNat < s.stc.config.ladderSize ∨ dest = 255) → length.toNat ≤ 60 →
      s.txq.entries[h] = none → (∀ h' : Fin 16, h' < h → s.txq.entries[h'] ≠ none) →
      exec (.submit dest length payload) s = .next (settleAttn (answered (.submit dest length payload) [0x00, byteOf h.val]
        { s with txq := { setSlot h (some { state := waitingState s dest, dest := dest, payload := payload,
                                            number := s.txq.submissions, seq := none, attempts := 0,
                                            collisions := 0 }) s.txq with
          submissions := s.txq.submissions + 1 } })))

/-- CANCEL by the entry's state, in every station state (R69): a WAITING or HELD entry becomes FREE with DONE; ON_LINE and
AWAITING_REPLY are answered TOO_LATE, COMPLETE and FREE NO_SUCH, a handle above 15 BAD_PARAM, and these change nothing. QUERY
ENTRY changes nothing: it answers DONE with the state's code, destination, sequence or its absence, attempts and collisions of
an entry that is not FREE, NO_SUCH for a FREE one and BAD_PARAM for a handle above 15 (R71). -/
def Obligations.CancelAndQueryByEntryState : Prop :=
  (∀ (s : State) (b : Byte), portTakes (.cancel b) s = true →
    (15 < b.toNat → exec (.cancel b) s = .next (settleAttn (answered (.cancel b) [0x03] s))) ∧
    (∀ h : Fin 16, b = byteOf h.val →
      (s.txq.entries[h] = none → exec (.cancel b) s = .next (settleAttn (answered (.cancel b) [0x05] s))) ∧
      (∀ e, s.txq.entries[h] = some e →
        (e.state = .waiting ∨ e.state = .held →
          exec (.cancel b) s =
            .next (settleAttn (answered (.cancel b) [0x00] { s with txq := setSlot h none s.txq }))) ∧
        (e.state = .onLine ∨ e.state = .awaitingReply →
          exec (.cancel b) s = .next (settleAttn (answered (.cancel b) [0x06] s))) ∧
        (∀ o, e.state = .complete o → exec (.cancel b) s = .next (settleAttn (answered (.cancel b) [0x05] s)))))) ∧
  (∀ (s : State) (b : Byte), portTakes (.queryEntry b) s = true →
    (15 < b.toNat → exec (.queryEntry b) s = .next (settleAttn (answered (.queryEntry b) [0x03] s))) ∧
    (∀ h : Fin 16, b = byteOf h.val →
      (s.txq.entries[h] = none → exec (.queryEntry b) s = .next (settleAttn (answered (.queryEntry b) [0x05] s))) ∧
      (∀ e, s.txq.entries[h] = some e →
        exec (.queryEntry b) s = .next (settleAttn (answered (.queryEntry b)
          [0x00,
            if e.state = .waiting then 1 else if e.state = .held then 2 else if e.state = .onLine then 3
              else if e.state = .awaitingReply then 4 else 5,
            e.dest, if e.seq = none then 0 else 1, e.seq.getD 0, byteOf e.attempts,
            byteOf e.collisions] s)))))

/-- READ FRAME takes the oldest record of URGENT, or with URGENT empty of NORMAL, frees its blocks, and answers DONE with the
record; the monitor judges the new fill. From NORMAL it also clears the stale flag and reloads the delivery timer, or stops it
when the lane is empty. With both lanes empty it answers EMPTY (R121, R122, R127, R180). -/
def Obligations.ReadFrameTakesTheHead : Prop :=
  ∀ s : State, portTakes .readFrame s = true →
    (s.rxp.urgent = [] → s.rxp.normal = [] →
      exec .readFrame s = .next (settleAttn (answered .readFrame [0x01] s))) ∧
    (∀ r rest, s.rxp.urgent = r :: rest →
      ∃ u, exec .readFrame s = .next (settleAttn (answered .readFrame
          ([0x00, 1, r.source, if r.broadcast = true then 1 else 0, r.seq, r.watch.elim 255 (fun i => byteOf i.val),
            byteOf r.payload.length] ++ r.payload) u)) ∧
        u = { s with rxp := { s.rxp with urgent := rest, fill := s.rxp.fill - r.blocks },
                     cgm := u.cgm, notices := u.notices, counters := u.counters } ∧
        FillJudged s.cgm s u) ∧
    (∀ r rest, s.rxp.urgent = [] → s.rxp.normal = r :: rest →
      ∃ u, exec .readFrame s = .next (settleAttn (answered .readFrame
          ([0x00, 0, r.source, if r.broadcast = true then 1 else 0, r.seq, r.watch.elim 255 (fun i => byteOf i.val),
            byteOf r.payload.length] ++ r.payload) u)) ∧
        u = { s with
          rxp := { s.rxp with
            normal := rest, fill := s.rxp.fill - r.blocks, stale := false,
            deliveryTimer := if rest = [] then none
              else if s.stc.config.deliveryTimeout = 0 then s.rxp.deliveryTimer else some s.stc.config.deliveryTimeout },
          cgm := u.cgm, notices := u.notices, counters := u.counters } ∧
        FillJudged s.cgm s u)

/-- FLUSH POOL removes every record, takes the fill to 0, clears the stale flag, stops the delivery timer and answers DONE
with the number of records removed; the monitor judges the new fill. Of an empty pool it changes nothing (R121, R124). -/
def Obligations.FlushPoolEmptiesThePool : Prop :=
  ∀ s : State, portTakes .flushPool s = true →
    (s.rxp.urgent = [] → s.rxp.normal = [] →
      exec .flushPool s = .next (settleAttn (answered .flushPool [0x00, 0] s))) ∧
    ((s.rxp.urgent ≠ [] ∨ s.rxp.normal ≠ []) →
      ∃ u, exec .flushPool s = .next (settleAttn (answered .flushPool
          [0x00, byteOf (s.rxp.urgent.length + s.rxp.normal.length)] u)) ∧
        u = { s with rxp := { urgent := [], normal := [], fill := 0, deliveryTimer := none, stale := false },
                     cgm := u.cgm, notices := u.notices, counters := u.counters } ∧
        FillJudged s.cgm s u)

/-- READ NOTICE takes the oldest notice and answers DONE with the code of its kind, subject and detail; a completion notice
frees the entry it names, an informational one leaves every other block as it was; an empty queue is answered EMPTY (R74, R173,
R181). READ COUNTERS answers DONE with the 14 counts in order, high byte first, and every counter becomes 0 (R175, R176). -/
def Obligations.ReadNoticeAndReadCounters : Prop :=
  (∀ s : State, portTakes .readNotice s = true →
    let code : NoticeKind → Byte := fun k =>
      if k = .sent then 0x01 else if k = .failed then 0x02 else if k = .peerFound then 0x10 else if k = .peerLost then 0x11
      else if k = .peerPaused then 0x12 else if k = .peerResumed then 0x13 else if k = .congested then 0x20
      else if k = .relieved then 0x21 else if k = .joined then 0x30 else if k = .left then 0x31
      else if k = .halted then 0x32 else if k = .numberClash then 0x40 else 0x41
    (s.notices = [] → exec .readNotice s = .next (settleAttn (answered .readNotice [0x01] s))) ∧
    (∀ n rest, s.notices = n :: rest →
      (n.kind ≠ .sent → n.kind ≠ .failed →
        exec .readNotice s = .next (settleAttn (answered .readNotice
          [0x00, code n.kind, n.subject, n.detail] { s with notices := rest }))) ∧
      (∀ h : Fin 16, n.kind = .sent ∨ n.kind = .failed → n.subject = byteOf h.val →
        exec .readNotice s = .next (settleAttn (answered .readNotice
          [0x00, code n.kind, n.subject, n.detail]
          { s with notices := rest, txq := setSlot h none s.txq }))))) ∧
  (∀ (s : State) (c : Counters), s.counters = c → portTakes .readCounters s = true →
    exec .readCounters s = .next (settleAttn (answered .readCounters
      (0x00 :: [c.goodFrames, c.noise, c.badFraming, c.badTruncated, c.badKind, c.badLength, c.badAddress, c.badCheck,
        c.collisions, c.noReplies, c.fullSent, c.duplicates, c.broadcastDrops, c.noticesLost].flatMap
          fun n => [byteOf (n / 256), byteOf n])
      { s with counters := { goodFrames := 0, noise := 0, badFraming := 0, badTruncated := 0, badKind := 0, badLength := 0,
                             badAddress := 0, badCheck := 0, collisions := 0, noReplies := 0, fullSent := 0,
                             duplicates := 0, broadcastDrops := 0, noticesLost := 0 } })))

/-! ### Reset and the supplies -/

/-- NRESET low for 1 µs and VDD out of range each put a running part into reset: every block takes its hardware-reset values
at once, what was on the line and the transaction in progress are gone (R167, R182, R183), and LDE is low, LTX high, HDO and
ATTN at high impedance, or all four at high impedance without VDD (R184). A part in reset keeps its blocks. The release, with
both NRESET high and VDD in range, starts the blocks from the same values, the idle time counting where LRX reads 1 (R20).
That all of this holds with VIO out of range too is the model's choice as to NRESET (log entry 33). -/
def Obligations.HardwareResetAndRelease : Prop :=
  ∀ (s : State) (lrx : Bool),
    (running s = true →
      exec .hardwareReset s = .next (afterHardReset false { s with pins := { s.pins with nresetLow := true } }) ∧
      exec .vddOutOfRange s = .next (afterHardReset false { s with pins := { s.pins with vddOk := false } })) ∧
    (running s = true → ∀ t,
      (exec .hardwareReset s = .next t →
        ldePin t = .low ∧ ltxPin t = .high ∧ hdoPin t = .highImpedance ∧ attnPin t = .highImpedance) ∧
      (exec .vddOutOfRange s = .next t →
        ldePin t = .highImpedance ∧ ltxPin t = .highImpedance ∧ hdoPin t = .highImpedance ∧
          attnPin t = .highImpedance)) ∧
    (s.pins.nresetLow = false → s.pins.vddOk = false →
      exec .hardwareReset s = .next (settleAttn { s with pins := { s.pins with nresetLow := true } })) ∧
    (s.pins.nresetLow = true → s.pins.vddOk = true →
      exec .vddOutOfRange s = .next (settleAttn { s with pins := { s.pins with vddOk := false } }) ∧
      exec (.nresetRelease lrx) s = .next (afterHardReset lrx { s with pins := { s.pins with nresetLow := false } })) ∧
    (s.pins.nresetLow = true → s.pins.vddOk = false →
      exec (.nresetRelease lrx) s = .next (settleAttn { s with pins := { s.pins with nresetLow := false } }) ∧
      exec (.vddReturn lrx) s = .next (settleAttn { s with pins := { s.pins with vddOk := true } })) ∧
    (s.pins.nresetLow = false → s.pins.vddOk = false →
      exec (.vddReturn lrx) s = .next (afterHardReset lrx { s with pins := { s.pins with vddOk := true } })) ∧
    (s.pins.nresetLow = true → exec .hardwareReset s = .next (settleAttn s)) ∧
    (s.pins.nresetLow = false → exec (.nresetRelease lrx) s = .next (settleAttn s)) ∧
    (s.pins.vddOk = false → exec .vddOutOfRange s = .next (settleAttn s)) ∧
    (s.pins.vddOk = true → exec (.vddReturn lrx) s = .next (settleAttn s))

/-- VIO out of range ends the transaction as a rise of HCS does, an executed SOFT RESET taking effect, and keeps every other
block; back in range it leaves the port DESELECTED or WAITING_DESELECT as HCS reads (R183). -/
def Obligations.VioEndsTheTransaction : Prop :=
  ∀ (s : State) (lrx : Bool),
    (s.pins.vioOk = true → running s = true → s.hpt.softResetDue = false →
      exec (.vioFall lrx) s = .next (settleAttn { s with
        pins := { s.pins with vioOk := false, hdo := .highImpedance },
        hpt := { s.hpt with port := .deselected, taken := [], bits := [], answer := [], outBits := 0 } })) ∧
    (s.pins.vioOk = true → running s = true → s.hpt.softResetDue = true →
      exec (.vioFall lrx) s =
        .next (settleAttn (afterSoftReset lrx { s with pins := { s.pins with vioOk := false } }))) ∧
    (s.pins.vioOk = true → running s = false →
      exec (.vioFall lrx) s = .next (settleAttn { s with pins := { s.pins with vioOk := false } })) ∧
    (s.pins.vioOk = false → running s = true →
      exec .vioReturn s = .next (settleAttn { s with
        pins := { s.pins with vioOk := true },
        hpt := { s.hpt with port := if s.pins.hcsHigh = true then .deselected else .waitingDeselect } })) ∧
    (s.pins.vioOk = false → running s = false →
      exec .vioReturn s = .next (settleAttn { s with pins := { s.pins with vioOk := true } })) ∧
    (s.pins.vioOk = false → exec (.vioFall lrx) s = .next (settleAttn s)) ∧
    (s.pins.vioOk = true → exec .vioReturn s = .next (settleAttn s))

/-! ### Receiving -/

/-- The receiver (R19) and the idle time (R20): a start bit in ARMED begins a character, received at the bit time that the next
start bit has (R16), and records whether LDE is asserted; a glitch returns it to ARMED, as LRX at 1 does in HOLDING, and the
idle time counts again from 0; in UNARMED a fall of LRX begins no character, breaks off its bit time at 1 and holds the idle
time at 0, as where LRX read 0 at the reset, and a whole bit time at 1 leads to ARMED with the idle time counting (R19, R20;
log entry 29). Nothing else changes. -/
def Obligations.ReceiverFollowsTheLine : Prop :=
  ∀ s : State, running s = true →
    (s.lif.receiver = .armed →
      exec .startBit s = .next (settleAttn { s with lif := { s.lif with
        receiver := .inCharacter s.lif.lde s.lif.startDivisor, idle := 0, idleCounting := false } })) ∧
    ((∃ b, s.lif.receiver = .unarmed b) →
      exec .startBit s = .next (settleAttn { s with lif := { s.lif with
        receiver := .unarmed false, idle := 0, idleCounting := false } })) ∧
    ((∃ lde d, s.lif.receiver = .inCharacter lde d) →
      exec .startBitGlitch s =
        .next (settleAttn { s with lif := { s.lif with receiver := .armed, idle := 0, idleCounting := true } })) ∧
    (s.lif.receiver = .holding →
      exec .holdingRelease s =
        .next (settleAttn { s with lif := { s.lif with receiver := .armed, idle := 0, idleCounting := true } })) ∧
    ((∃ b, s.lif.receiver = .unarmed b) →
      exec .receiverArmed s =
        .next (settleAttn { s with lif := { s.lif with receiver := .armed, idleCounting := true } }))

/-- A character at the Frame Receiver, by assembly state: in AWAIT_SYNC a lead starts a frame, own-marked if LDE was asserted
at its start bit (R13), and otherwise abandons a decided reply and makes an open reply wait one for its candidate (R83, R88);
any other character is noise, counted, and makes last sender UNKNOWN (R8, R14, R32); in IN_FRAME the frame goes on, or fails a
check: DRAINING, or AWAIT_SYNC where the frame is over, with the bad frame counted by its cause and last sender UNKNOWN, all
but DRAINING left out for an own-marked frame (R9, R13, R32); a good own-marked frame gives no result (R13), but for what R50
says of one of the own number that survived a collision with the own frame (log entry 34, GoodFrameClaims); in DRAINING the
character is dropped (R12). -/
def Obligations.CharacterAtFrameReceiver : Prop :=
  ∀ (s : State) (value : Byte) (stop lde : Bool) (d : Nat), running s = true → NotComparing s.lif →
    s.lif.receiver = .inCharacter lde d →
    (s.frx = .awaitSync →
      (value = 0xA6 → stop = true →
        exec (.characterComplete value stop) s = .next (settleAttn { characterHeard stop s with
          frx := .inFrame { ownMark := lde, collided := false, kind := none, dest := none, source := none, seq := none,
                            length := none, payload := [], toCome := 0, check := 0xFFFF, checkHigh := none },
          rpu := if lde = true then s.rpu
            else { pending := replyKept s, wait := s.rpu.wait.map fun w => { w with candidate := true } } })) ∧
      (value ≠ 0xA6 ∨ stop = false → (∀ w, s.rpu.wait = some w → w.candidate = true) →
        exec (.characterComplete value stop) s = .next (settleAttn { characterHeard stop s with
          counters := { s.counters with noise := oneMore s.counters.noise },
          lastSender := senderLost s,
          rpu := { s.rpu with pending := replyKept s } }))) ∧
    (∀ a, s.frx = .inFrame a →
      (∀ a', takeCharacter a value stop = .goesOn a' →
        exec (.characterComplete value stop) s =
          .next (settleAttn { characterHeard stop s with frx := .inFrame a' })) ∧
      (∀ cause, (takeCharacter a value stop = .fails cause ∨ takeCharacter a value stop = .failsAtEnd cause) →
        a.ownMark = true →
        exec (.characterComplete value stop) s = .next (settleAttn { characterHeard stop s with
          frx := if takeCharacter a value stop = .fails cause then .draining else .awaitSync })) ∧
      (∀ cause, (takeCharacter a value stop = .fails cause ∨ takeCharacter a value stop = .failsAtEnd cause) →
        a.ownMark = false → s.rpu.wait = none →
        exec (.characterComplete value stop) s = .next (settleAttn { characterHeard stop s with
          frx := if takeCharacter a value stop = .fails cause then .draining else .awaitSync,
          counters := s.counters.countBad cause,
          lastSender := senderLost s,
          rpu := { s.rpu with pending := replyKept s } })) ∧
      (takeCharacter a value stop = .passes → a.ownMark = true →
        (a.collided = false ∨ s.stc.station = .unjoined ∨ a.source ≠ some (byteOf s.stc.config.ownNumber)) →
        exec (.characterComplete value stop) s = .next (settleAttn { characterHeard stop s with frx := .awaitSync }))) ∧
    (s.frx = .draining →
      exec (.characterComplete value stop) s = .next (settleAttn (characterHeard stop s))) ∧
    (s.counters.countBad .framing = { s.counters with badFraming := oneMore s.counters.badFraming } ∧
      s.counters.countBad .truncated = { s.counters with badTruncated := oneMore s.counters.badTruncated } ∧
      s.counters.countBad .kind = { s.counters with badKind := oneMore s.counters.badKind } ∧
      s.counters.countBad .length = { s.counters with badLength := oneMore s.counters.badLength } ∧
      s.counters.countBad .address = { s.counters with badAddress := oneMore s.counters.badAddress } ∧
      s.counters.countBad .check = { s.counters with badCheck := oneMore s.counters.badCheck })

/-- The validity checks in frame order (R9): framing at every character; kind at character 2; length and then destination at
the length character; and the check at the low check character, which ends the frame in either case. A character that passes
is kept in its field, and from the kind to the payload it enters the running check (R5). -/
def Obligations.ValidityChecksInOrder : Prop :=
  ∀ (a : Assembly) (b : Byte),
    (takeCharacter a b false = if a.checkHigh = none then .fails .framing else .failsAtEnd .framing) ∧
    (a.kind = none →
      takeCharacter a b true = if 1 ≤ b.toNat / 16 ∧ b.toNat / 16 ≤ 5 then
        .goesOn { a with kind := some b, check := checkByte a.check b } else .fails .kind) ∧
    (∀ k, a.kind = some k → a.dest = none →
      takeCharacter a b true = .goesOn { a with dest := some b, check := checkByte a.check b }) ∧
    (∀ k d, a.kind = some k → a.dest = some d → a.source = none →
      takeCharacter a b true = .goesOn { a with source := some b, check := checkByte a.check b }) ∧
    (∀ k d s, a.kind = some k → a.dest = some d → a.source = some s → a.seq = none →
      takeCharacter a b true = .goesOn { a with seq := some b, check := checkByte a.check b }) ∧
    (∀ k d s q, a.kind = some k → a.dest = some d → a.source = some s → a.seq = some q → a.length = none →
      takeCharacter a b true =
        if (k.toNat / 16 = 1 ∧ 60 < b.toNat) ∨ (k.toNat / 16 ≠ 1 ∧ b ≠ 0) then .fails .length
        else if 32 ≤ d.toNat ∧ d ≠ 255 then .fails .address
        else .goesOn { a with length := some b, toCome := b.toNat + 2, check := checkByte a.check b }) ∧
    (∀ k d s q n, a.kind = some k → a.dest = some d → a.source = some s → a.seq = some q → a.length = some n →
      takeCharacter a b true =
        if 3 ≤ a.toCome then
          .goesOn { a with payload := a.payload ++ [b], toCome := a.toCome - 1, check := checkByte a.check b }
        else a.checkHigh.elim (.goesOn { a with checkHigh := some b, toCome := a.toCome - 1 })
          (fun high => if high.toNat * 256 + b.toNat = a.check.toNat then .passes else .failsAtEnd .check))

/-- A frame built by R2 to R5 has the layout of R2, its kind's code from R3, and the check value that R5 computes bit by bit,
high byte first; it passes every check of a Frame Receiver that hears it whole, and the good frame has the fields it was built
from (R9, R11): whatever its kind, modifier, source, sequence and payload, to a destination of 0..31 or 255. -/
def Obligations.BuiltFrameIsHeardGood : Prop :=
  (∀ (kind : FrameKind) (modifier : Nat) (dest source seq : Byte) (payload : List Byte),
    let code : Nat := if kind = .data then 1 else if kind = .ack then 2 else if kind = .pause then 3
      else if kind = .resume then 4 else 5
    let bit : Check → Bool → Check := fun r d => if (r.msb != d) = true then (r <<< 1) ^^^ 0x1021 else r <<< 1
    let byte : Check → Byte → Check := fun r b => [7, 6, 5, 4, 3, 2, 1, 0].foldl (fun r i => bit r (b.getLsbD i)) r
    let header : List Byte := [byteOf (code * 16 + modifier), dest, source, seq, byteOf payload.length]
    let check : Check := (header ++ payload).foldl byte 0xFFFF
    frameBytes kind modifier dest source seq payload =
      0xA6 :: (header ++ payload ++ [byteOf (check.toNat / 256), byteOf check.toNat])) ∧
  ∀ (kind : FrameKind) (modifier : Nat) (dest source seq : Byte) (payload : List Byte) (ownMark : Bool),
    modifier ≤ 15 → (dest.toNat ≤ 31 ∨ dest = 255) → payload.length ≤ 60 → (kind ≠ .data → payload = []) →
    ∃ (middle : List Byte) (last : Byte) (a : Assembly),
      frameBytes kind modifier dest source seq payload = 0xA6 :: middle ++ [last] ∧
      assembleAll (newAssembly ownMark) middle = some a ∧ takeCharacter a last true = .passes ∧ a.ownMark = ownMark ∧
      goodFrameOf a =
        some { kind := kind, modifier := modifier, dest := dest, source := source, seq := seq, payload := payload }

/-! ### Good frames -/

/-- A good frame that is an ACK, a plain BEACON or a DATA frame to another station, and any but DATA from a source of N or
above (R97, R112), makes its claims on last sender, LEARNED, the presence of its source and LADDER_MISMATCH, and nothing else
(R15, R31, R33, R99, R150); in UNJOINED every good frame is counted and makes no claim (R15, R79, R112, R120). One from the own
number, in a joined state, gives NUMBER_CLASH and, unless it is an ACK, last sender and LEARNED (R15, R31). An own-marked frame
of the own number that survived a collision with the station's own frame does the same, uncounted, as R50 says, or is dropped,
as R13, R14 and R49 say: which of the two is a free value of the model's (log entry 34). -/
def Obligations.GoodFrameClaims : Prop :=
  let clash : State → Byte → GoodFrame → Counters → Prop := fun s value f counted =>
    ∃ v, exec (.characterComplete value true) s = .next (settleAttn v) ∧
      v = { characterHeard true s with
        frx := .awaitSync,
        lastSender := if f.kind = .ack then s.lastSender else some s.stc.config.ownNumber,
        stc := if f.kind ≠ .ack ∧ s.stc.station = .listening then
            { s.stc with station := .announcing, listeningRound := none } else s.stc,
        txq := if f.kind ≠ .ack ∧ s.stc.station = .listening then { s.txq with beacon := .joining } else s.txq,
        notices := v.notices, counters := v.counters } ∧
      NoticeOffered { kind := .numberClash, subject := f.source, detail := byteOf f.kind.code }
        { s with counters := counted } v;
  (∀ (s : State) (value : Byte) (f : GoodFrame), EndsGoodFrame value f s → s.rpu.wait = none →
    ((s.stc.station = .unjoined ∨ f.source ≠ byteOf s.stc.config.ownNumber) →
      (f.kind = .ack ∨ (f.kind = .beacon ∧ f.modifier ≠ 1) ∨
        (f.kind = .data ∧ f.dest ≠ byteOf s.stc.config.ownNumber ∧ f.dest ≠ 255) ∨
        (f.kind ≠ .data ∧ s.stc.config.ladderSize ≤ f.source.toNat) ∨ s.stc.station = .unjoined) →
      ∃ v, exec (.characterComplete value true) s = .next (settleAttn v) ∧ HeardFrom f (characterHeard true s) v) ∧
    (s.stc.station ≠ .unjoined → f.source = byteOf s.stc.config.ownNumber →
      clash s value f { s.counters with goodFrames := oneMore s.counters.goodFrames })) ∧
  ∀ (s : State) (value : Byte) (f : GoodFrame), EndsSurvivingFrame value f s → s.rpu.wait = none →
    s.stc.station ≠ .unjoined → f.source = byteOf s.stc.config.ownNumber →
    if Config.survivorHeard = true then clash s value f s.counters
    else exec (.characterComplete value true) s = .next (settleAttn { characterHeard true s with frx := .awaitSync })

/-- A good PAUSE pauses its source's record for the pause hold, or reloads the pause timer of one paused already (R102, R103);
a good RESUME or joining BEACON unpauses it, the BEACON also clearing its last-received sequence (R104, R106). A change gives
PEER_PAUSED or PEER_RESUMED with its cause, after the presence notice, and moves the entries to that peer between WAITING and
HELD (R67, R68, R99). -/
def Obligations.PauseAndResumeClaims : Prop :=
  ∀ (s : State) (value : Byte) (f : GoodFrame) (p : Fin 32), EndsGoodFrame value f s → s.rpu.wait = none →
    s.stc.station ≠ .unjoined → f.source = byteOf p.val → p.val < s.stc.config.ladderSize →
    p.val ≠ s.stc.config.ownNumber → s.stc.config.ownNumber ≤ 31 →
    (f.kind = .pause ∨ f.kind = .resume ∨ (f.kind = .beacon ∧ f.modifier = 1)) →
    ∃ v w, HeardFrom f (characterHeard true s) v ∧
      exec (.characterComplete value true) s = .next (settleAttn w) ∧
      (f.kind = .pause →
        w = { v with
          ptb := setRecord p { v.ptb.records[p] with paused := true, pauseTimer := some s.stc.config.pauseHold } v.ptb,
          txq := { v.txq with entries := w.txq.entries }, notices := w.notices, counters := w.counters } ∧
        if s.ptb.records[p].paused = true then w.txq = v.txq ∧ NothingReported v w
        else EntriesMapped (heldBy p) v w ∧
          NoticeOffered { kind := .peerPaused, subject := byteOf p.val, detail := 1 } v w) ∧
      (f.kind ≠ .pause →
        w = { v with
          ptb := setRecord p { v.ptb.records[p] with
            paused := false,
            pauseTimer := if s.ptb.records[p].paused = true then none else s.ptb.records[p].pauseTimer,
            lastReceived := if f.kind = .beacon then none else s.ptb.records[p].lastReceived } v.ptb,
          txq := { v.txq with entries := w.txq.entries }, notices := w.notices, counters := w.counters } ∧
        if s.ptb.records[p].paused = true then
          EntriesMapped (releasedBy p) v w ∧
          NoticeOffered { kind := .peerResumed, subject := byteOf p.val, detail := if f.kind = .beacon then 3 else 1 } v w
        else w.txq = v.txq ∧ NothingReported v w)

/-- A good DATA frame to the own number is decided on once, in the states that receive, and not at all in UNJOINED and HALTED
(R79, R80): DUPLICATE where its sequence is the last-received one of its source's record, which is counted; TAKEN where it
fits, when it is stored at the tail of its lane and its sequence becomes that record's last-received; else FULL. A source of N
or above has no record. The reply it owes is pending, in DECIDED, unless one is being sent (R83). A store raises the fill by
the record's blocks, reloads the delivery timer where the lane is NORMAL, and the monitor judges the new fill (R114, R118,
R119, R121, R127). -/
def Obligations.AcceptanceDecision : Prop :=
  ∀ (s : State) (value : Byte) (f : GoodFrame), EndsGoodFrame value f s → s.rpu.wait = none →
    f.kind = .data → f.dest = byteOf s.stc.config.ownNumber → f.dest ≠ 255 → f.source ≠ byteOf s.stc.config.ownNumber →
    ∃ v, HeardFrom f (characterHeard true s) v ∧
      let owes : ReplyResult → ReplyUnit := fun r =>
        if s.rpu.pending.any (fun old => old.sending) = true then s.rpu
        else { s.rpu with pending := some { dest := f.source, seq := f.seq, result := r, sending := false } }
      let receiving : Prop := s.stc.station ≠ .unjoined ∧ s.stc.station ≠ .halted
      let repeated : Prop := ∃ p : Fin 32, f.source = byteOf p.val ∧ p.val < s.stc.config.ladderSize ∧
        s.ptb.records[p].lastReceived = some f.seq
      let fill : Nat := s.rxp.fill + if f.payload.length ≤ 32 then 1 else 2
      (¬ receiving → exec (.characterComplete value true) s = .next (settleAttn v)) ∧
      (receiving → repeated →
        exec (.characterComplete value true) s = .next (settleAttn { v with
          counters := { v.counters with duplicates := oneMore v.counters.duplicates }, rpu := owes .duplicate })) ∧
      (receiving → ¬ repeated → 48 < fill →
        exec (.characterComplete value true) s = .next (settleAttn { v with rpu := owes .full })) ∧
      (receiving → ¬ repeated → fill ≤ 48 →
        ∃ u, exec (.characterComplete value true) s = .next (settleAttn u) ∧
          (∀ p : Fin 32, f.source = byteOf p.val → p.val < s.stc.config.ladderSize →
            u.ptb = setRecord p { v.ptb.records[p] with lastReceived := some f.seq } v.ptb) ∧
          (s.stc.config.ladderSize ≤ f.source.toNat → u.ptb = v.ptb) ∧
          u = { v with
            ptb := u.ptb,
            rxp := poolWith s.stc.config { source := f.source, broadcast := false, seq := f.seq, payload := f.payload,
                                           watch := watchIndex s.stc.config f.source f.payload } s.rxp,
            cgm := u.cgm, notices := u.notices, counters := u.counters, rpu := owes .taken } ∧
          FillJudged v.cgm v u)

/-- A good broadcast DATA frame is stored where it fits, in the states that receive, and else counted as dropped (R120); in
UNJOINED and HALTED neither (R130). -/
def Obligations.BroadcastAdmission : Prop :=
  ∀ (s : State) (value : Byte) (f : GoodFrame), EndsGoodFrame value f s → s.rpu.wait = none →
    f.kind = .data → f.dest = 255 → s.stc.config.ownNumber ≤ 31 →
    (s.stc.station = .unjoined ∨ f.source ≠ byteOf s.stc.config.ownNumber) →
    ∃ v, HeardFrom f (characterHeard true s) v ∧
      let receiving : Prop := s.stc.station ≠ .unjoined ∧ s.stc.station ≠ .halted
      let fill : Nat := s.rxp.fill + if f.payload.length ≤ 32 then 1 else 2
      (¬ receiving → exec (.characterComplete value true) s = .next (settleAttn v)) ∧
      (receiving → 48 < fill →
        exec (.characterComplete value true) s = .next (settleAttn { v with
          counters := { v.counters with broadcastDrops := oneMore v.counters.broadcastDrops } })) ∧
      (receiving → fill ≤ 48 →
        ∃ u, exec (.characterComplete value true) s = .next (settleAttn u) ∧
          u = { v with
            rxp := poolWith s.stc.config { source := f.source, broadcast := true, seq := f.seq, payload := f.payload,
                                           watch := watchIndex s.stc.config f.source f.payload } s.rxp,
            cgm := u.cgm, notices := u.notices, counters := u.counters } ∧
          FillJudged v.cgm v u)

/-- A record joins the tail of URGENT where an enabled watch entry matches its source and first payload byte, the
lowest-numbered that does, and else the tail of NORMAL, where the delivery timer is loaded unless the timeout is 0; the fill
rises by 1 block up to 32 payload bytes and by 2 above (R114, R116, R118, R127). -/
def Obligations.LaneChoice : Prop :=
  ∀ (c : ConfigRecord) (r : Record) (p : ReceivePool),
    (r.watch = none → poolWith c r p = { p with
      normal := p.normal ++ [r],
      fill := p.fill + (if r.payload.length ≤ 32 then 1 else 2),
      deliveryTimer := if c.deliveryTimeout = 0 then p.deliveryTimer else some c.deliveryTimeout }) ∧
    (∀ i, r.watch = some i → poolWith c r p = { p with
      urgent := p.urgent ++ [r], fill := p.fill + (if r.payload.length ≤ 32 then 1 else 2) }) ∧
    (∀ (source : Byte) (i : Fin 4), watchIndex c source [] = none ∧
      ∀ (b : Byte) (rest : List Byte),
        let matches' : Fin 4 → Prop := fun j => c.watches[j].enabled = true ∧
          (c.watches[j].source = none ∨ c.watches[j].source = some source.toNat) ∧
          b &&& c.watches[j].mask = c.watches[j].value &&& c.watches[j].mask
        (watchIndex c source (b :: rest) = some i ↔ matches' i ∧ ∀ j < i, ¬ matches' j) ∧
        (watchIndex c source (b :: rest) = none ↔ ∀ j, ¬ matches' j))

/-! ### Replies -/

/-- A reply wait ends with the outcome of the ACK that answers its entry: TAKEN and DUPLICATE complete the entry, FULL pauses
the destination's record and returns the entry to HELD with its counts, and any other ACK is NO_REPLY (R63, R64, R65, R89, R90,
R102). The ACK's own claims come first. In LEAVING the entry completes, withdrawn where it would have returned, and the station
reaches UNJOINED (R75, R157, R158). Any other good frame, and any from the own number, ends the wait with NO_REPLY besides all
that it does without one (R89), the notice of an entry completed so before that of a crossing, CONGESTED or RELIEVED, that the
frame's store brings about (R171). That a good frame ends a wait in OPEN too is log entry 13. -/
def Obligations.AckEndsReplyWait : Prop :=
  (∀ (s : State) (value : Byte) (f : GoodFrame) (w : ReplyWait) (e : Entry) (p : Fin 32), EndsGoodFrame value f s →
    s.rpu.wait = some w → s.txq.entries[w.handle] = some e → e.state = .awaitingReply → e.dest = w.dest →
    s.stc.station ≠ .unjoined → f.kind = .ack →
    w.dest = byteOf p.val → p.val < s.stc.config.ladderSize → p.val ≠ s.stc.config.ownNumber →
    s.stc.config.ownNumber ≤ 31 → f.source ≠ byteOf s.stc.config.ownNumber →
    ∃ v u, HeardFrom f (characterHeard true s) v ∧ exec (.characterComplete value true) s = .next (settleAttn u) ∧
      let answers := f.dest = byteOf s.stc.config.ownNumber ∧ f.source = w.dest ∧ f.seq = w.seq
      let completed : State := { v with
        rpu := { v.rpu with wait := none },
        txq := { setSlot w.handle
          (some { e with state := .complete (if f.modifier = 1 then .sentTaken else .sentDuplicate) }) v.txq with
            current := none } }
      let sent : Notice := { kind := .sent, subject := byteOf w.handle.val, detail := if f.modifier = 1 then 1 else 2 }
      (answers → f.modifier = 1 ∨ f.modifier = 2 →
        if s.stc.station = .leaving then LeavesAfter sent completed u
        else u = { completed with notices := v.notices ++ [sent] }) ∧
      (answers → f.modifier = 3 → s.stc.station = .leaving →
        ∃ x : State,
          x = { v with
            rpu := { v.rpu with wait := none },
            txq := { v.txq with entries := x.txq.entries, current := none },
            notices := x.notices, counters := x.counters } ∧
          x.txq.entries[w.handle] = some { e with state := .complete .failedWithdrawn } ∧
          (∀ h : Fin 16, h ≠ w.handle → x.txq.entries[h] =
            if s.ptb.records[p].paused = true then s.txq.entries[h] else (s.txq.entries[h]).map (heldBy p)) ∧
          (if s.ptb.records[p].paused = true then NothingReported v x
            else NoticeOffered { kind := .peerPaused, subject := byteOf p.val, detail := 2 } v x) ∧
          LeavesAfter { kind := .failed, subject := byteOf w.handle.val, detail := 3 } x u) ∧
      (answers → f.modifier = 3 → s.stc.station ≠ .leaving →
        u = { v with
          rpu := { v.rpu with wait := none },
          ptb := setRecord p { v.ptb.records[p] with paused := true, pauseTimer := some s.stc.config.pauseHold } v.ptb,
          txq := { v.txq with entries := u.txq.entries, current := none },
          notices := u.notices, counters := u.counters } ∧
        u.txq.entries[w.handle] = some { e with state := .held } ∧
        (∀ h : Fin 16, h ≠ w.handle → u.txq.entries[h] =
          if s.ptb.records[p].paused = true then s.txq.entries[h] else (s.txq.entries[h]).map (heldBy p)) ∧
        if s.ptb.records[p].paused = true then NothingReported v u
        else NoticeOffered { kind := .peerPaused, subject := byteOf p.val, detail := 2 } v u) ∧
      (¬ (answers ∧ 1 ≤ f.modifier ∧ f.modifier ≤ 3) → EndsWithoutReply w e v u)) ∧
  ∀ (s : State) (value : Byte) (f : GoodFrame) (w : ReplyWait) (e : Entry), EndsGoodFrame value f s →
    s.rpu.wait = some w → s.txq.entries[w.handle] = some e → e.state = .awaitingReply →
    (f.kind ≠ .ack ∨ (s.stc.station ≠ .unjoined ∧ f.source = byteOf s.stc.config.ownNumber ∧ w.dest ≠ f.source)) →
    ∃ r m u : State,
      exec (.characterComplete value true) { s with rpu := { s.rpu with wait := none } } = .next r ∧
      exec (.characterComplete value true) s = .next (settleAttn u) ∧
      let tried : Entry := { e with attempts := e.attempts + 1 }
      let outcome : Option EntryOutcome := if s.stc.station = .leaving then some .failedWithdrawn
        else if s.stc.config.retryLimit ≤ e.attempts + 1 then some .failedNoReply else none
      m = { r with
        counters := { r.counters with noReplies := oneMore r.counters.noReplies },
        txq := { setSlot w.handle (some (outcome.elim (returned r tried) fun o => { tried with state := .complete o })) r.txq with
          current := none },
        notices := m.notices } ∧
      (outcome = none → m.notices = r.notices) ∧
      (outcome ≠ none → NoticeAdded { kind := .failed, subject := byteOf w.handle.val,
                                      detail := if s.stc.station = .leaving then 3 else 1 } s r m) ∧
      if s.stc.station = .leaving then Leaves m u else u = m

/-- A reply wait ends with NO_REPLY at the end of its window if no frame has begun (R87, R88), at noise before one has, and at
a bad frame, one truncated at idle time 7 too (R10, R88); a wait for its candidate outlasts the window and noise. In LEAVING
the entry is withdrawn instead, its attempt counted, and the station reaches UNJOINED (R75, R157, R158). That a row moves the
idle time to its value from any below is log entry 7. -/
def Obligations.ReplyWaitEndsWithoutReply : Prop :=
  ∀ (s : State) (w : ReplyWait) (e : Entry), running s = true → s.rpu.wait = some w →
    s.txq.entries[w.handle] = some e → e.state = .awaitingReply →
    (s.lif.idleCounting = true → 1 ≤ s.stc.config.replyWindow → s.lif.idle ≤ s.stc.config.replyWindow →
      (w.candidate = true →
        exec .replyWindowEnd s = .next (settleAttn (atIdleTime s.stc.config.replyWindow s))) ∧
      (w.candidate = false →
        ∃ u, exec .replyWindowEnd s = .next (settleAttn u) ∧
          EndsWithoutReply w e (atIdleTime s.stc.config.replyWindow s) u)) ∧
    (∀ a, s.lif.idleCounting = true → s.lif.idle ≤ 7 → s.frx = .inFrame a → a.ownMark = false →
      ∃ u, exec .idleGapLimit s = .next (settleAttn u) ∧
        EndsWithoutReply w e { atIdleTime 7 s with
          frx := .awaitSync, counters := { s.counters with badTruncated := oneMore s.counters.badTruncated },
          lastSender := senderLost s, rpu := { s.rpu with pending := replyKept s } } u) ∧
    (∀ (value : Byte) (stop lde : Bool) (d : Nat), s.lif.receiver = .inCharacter lde d → NotComparing s.lif →
      (s.frx = .awaitSync → (value ≠ 0xA6 ∨ stop = false) → w.candidate = false →
        ∃ u, exec (.characterComplete value stop) s = .next (settleAttn u) ∧
          EndsWithoutReply w e { characterHeard stop s with
            counters := { s.counters with noise := oneMore s.counters.noise },
            lastSender := senderLost s, rpu := { s.rpu with pending := replyKept s } } u) ∧
      (∀ a cause, s.frx = .inFrame a → a.ownMark = false →
        (takeCharacter a value stop = .fails cause ∨ takeCharacter a value stop = .failsAtEnd cause) →
        ∃ u, exec (.characterComplete value stop) s = .next (settleAttn u) ∧
          EndsWithoutReply w e { characterHeard stop s with
            frx := if takeCharacter a value stop = .fails cause then .draining else .awaitSync,
            counters := s.counters.countBad cause,
            lastSender := senderLost s, rpu := { s.rpu with pending := replyKept s } } u))

/-- The idle-time events besides the slot openings: 7 truncates a frame and ends DRAINING (R10, R12, R32; with a reply wait,
see ReplyWaitEndsWithoutReply); W, with no reply wait open, does nothing (R87; with one, see there); 2 sends the ACK of a
decided reply, counting a FULL, or drops the reply where an own frame has not ended or the station no longer answers (R82,
R159; log entry 31); the listening round ends LISTENING for ANNOUNCING (R151, R152). That a row moves the idle time to its
value from any below is log entry 7. -/
def Obligations.IdleEventsAct : Prop :=
  ∀ s : State, running s = true → s.lif.idleCounting = true →
    (s.lif.idle ≤ 7 →
      (s.frx = .awaitSync → exec .idleGapLimit s = .next (settleAttn (atIdleTime 7 s))) ∧
      (s.frx = .draining →
        exec .idleGapLimit s = .next (settleAttn { atIdleTime 7 s with frx := .awaitSync })) ∧
      (∀ a, s.frx = .inFrame a → a.ownMark = true →
        exec .idleGapLimit s = .next (settleAttn { atIdleTime 7 s with frx := .awaitSync })) ∧
      (∀ a, s.frx = .inFrame a → a.ownMark = false → s.rpu.wait = none →
        exec .idleGapLimit s = .next (settleAttn { atIdleTime 7 s with
          frx := .awaitSync, counters := { s.counters with badTruncated := oneMore s.counters.badTruncated },
          lastSender := senderLost s, rpu := { s.rpu with pending := replyKept s } }))) ∧
    (s.rpu.wait = none → 1 ≤ s.stc.config.replyWindow → s.lif.idle ≤ s.stc.config.replyWindow →
      exec .replyWindowEnd s = .next (settleAttn (atIdleTime s.stc.config.replyWindow s))) ∧
    (s.lif.idle ≤ 2 →
      (s.rpu.pending = none ∨ (∃ r, s.rpu.pending = some r ∧ r.sending = true) →
        exec .replyStart s = .next (settleAttn (atIdleTime 2 s))) ∧
      (∀ r, s.rpu.pending = some r → r.sending = false →
        (s.stc.station ≠ .unjoined → s.stc.station ≠ .halted → s.lif.transmitter = .off → s.lif.own = none →
          exec .replyStart s = .next (settleAttn { atIdleTime 2 s with
            lif := requested
              (frameBytes .ack (if r.result = .taken then 1 else if r.result = .duplicate then 2 else 3) r.dest
                (byteOf s.stc.config.ownNumber) r.seq []) .ack false .replyUnit (atIdleTime 2 s).lif,
            rpu := { s.rpu with pending := some { r with sending := true } },
            counters := if r.result = .full then { s.counters with fullSent := oneMore s.counters.fullSent }
              else s.counters })) ∧
        (s.stc.station = .unjoined ∨ s.stc.station = .halted ∨ s.lif.transmitter ≠ .off ∨ s.lif.own ≠ none →
          exec .replyStart s = .next (settleAttn { atIdleTime 2 s with rpu := { s.rpu with pending := none } })))) ∧
    (∀ k, 1 ≤ k → s.lif.idle ≤ k →
      (∀ round, s.stc.station = .listening → s.stc.listeningRound = some round → round ≤ k →
        exec (.listeningRoundEnd k) s = .next (settleAttn { atIdleTime k s with
          stc := { s.stc with station := .announcing, listeningRound := none },
          txq := { s.txq with beacon := .joining } })) ∧
      (s.stc.station ≠ .listening ∨ (∃ round, s.stc.listeningRound = some round ∧ k < round) →
        exec (.listeningRoundEnd k) s = .next (settleAttn (atIdleTime k s))))

/-! ### Slot openings -/

/-- The own position is (own − last − 1) mod N, or the own number while last sender is UNKNOWN (R37), and the idle times W + 4
+ p·S + m·N·S of that position p are its slot openings (R38). At one in ACTIVE, with no own frame in progress and no current
frame, the pending announcement is sent first and a plain beacon second, in ANNOUNCING the joining beacon alone (R40, R58, R59,
R60, R136). An idle time off the schedule, another state, a current frame, or an own frame that has not ended lets the slot
pass (R35, R38, R42; log entry 31). That a row moves the idle time to its value from any below is log entry 7. -/
def Obligations.SlotGivesAnnouncementOrBeacon : Prop :=
  (∀ (c : ConfigRecord) (last : Option Nat) (k : Nat), 1 ≤ c.ladderSize → 1 ≤ c.slotWidth →
    (isSlotOpening c last k = true ↔ ∃ m p : Nat,
      (last = none → p = c.ownNumber) ∧
      (∀ n, last = some n → (p : Int) = ((c.ownNumber : Int) - (n : Int) - 1) % (c.ladderSize : Int)) ∧
      k = c.replyWindow + 4 + p * c.slotWidth + m * (c.ladderSize * c.slotWidth))) ∧
  ∀ (s : State) (k : Nat), running s = true → s.lif.idleCounting = true → 1 ≤ k → s.lif.idle ≤ k →
    let send : FrameKind → Nat → Bool → CurrentFrame → State := fun kind modifier joining c =>
      { atIdleTime k s with
        lif := requested (frameBytes kind modifier 255 (byteOf s.stc.config.ownNumber) 0 []) kind joining .transmitQueue
          (atIdleTime k s).lif,
        txq := { s.txq with current := some c } }
    (isSlotOpening s.stc.config s.lastSender k = true → s.lif.transmitter = .off → s.lif.own = none → s.txq.current = none →
      (s.stc.station = .active → s.cgm.announcement = some .pause →
        exec (.slotOpening k) s = .next (settleAttn (send .pause 0 false (.announcement .pause)))) ∧
      (s.stc.station = .active → s.cgm.announcement = some .resume →
        exec (.slotOpening k) s = .next (settleAttn (send .resume 0 false (.announcement .resume)))) ∧
      (s.stc.station = .active → s.cgm.announcement = none → s.txq.beacon = .plain →
        exec (.slotOpening k) s = .next (settleAttn (send .beacon 0 false (.beacon false)))) ∧
      (s.stc.station = .announcing → s.txq.beacon = .joining →
        exec (.slotOpening k) s = .next (settleAttn (send .beacon 1 true (.beacon true)))) ∧
      (s.stc.station = .announcing → s.txq.beacon ≠ .joining →
        exec (.slotOpening k) s = .next (settleAttn (atIdleTime k s)))) ∧
    ((isSlotOpening s.stc.config s.lastSender k = false ∨ s.lif.transmitter ≠ .off ∨ s.lif.own ≠ none ∨ s.txq.current ≠ none ∨
        (s.stc.station ≠ .active ∧ s.stc.station ≠ .announcing)) →
      exec (.slotOpening k) s = .next (settleAttn (atIdleTime k s)))

/-- With nothing to announce and no plain beacon pending, a slot opening in ACTIVE gives the oldest WAITING entry that no older
unfinished entry to its destination stands before, an entry's age being the submission counter minus its number, modulo 2^32;
with none the slot passes (R53, R58). The entry becomes ON_LINE and the current frame; one without a sequence takes the next
sequence of its destination's record, or of the broadcast counter, which moves on (R60, R94, R108). An own frame that has not
ended answers BUSY instead (R42; log entry 31, SlotGivesAnnouncementOrBeacon); that the row moves the idle time to k from any
below is log entry 7. -/
def Obligations.SlotGivesOldestEntry : Prop :=
  ∀ (s : State) (k : Nat), running s = true → s.lif.idleCounting = true → 1 ≤ k → s.lif.idle ≤ k →
    isSlotOpening s.stc.config s.lastSender k = true → s.lif.transmitter = .off → s.lif.own = none → s.txq.current = none →
    s.stc.station = .active → s.cgm.announcement = none → s.txq.beacon ≠ .plain →
    ((∀ h e, ¬ Choosable s h e) → exec (.slotOpening k) s = .next (settleAttn (atIdleTime k s))) ∧
    ((∃ h e, Choosable s h e) →
      ∃ (h : Fin 16) (e : Entry), Choosable s h e ∧
        (∀ h' e', Choosable s h' e' → ageOf s e' ≤ ageOf s e) ∧
        let sent : Byte → State := fun q =>
          { atIdleTime k s with
            lif := requested (frameBytes .data 0 e.dest (byteOf s.stc.config.ownNumber) q e.payload) .data false
              .transmitQueue (atIdleTime k s).lif,
            txq := { setSlot h (some { e with state := .onLine, seq := some q }) s.txq with current := some (.entry h) } }
        (∀ q, e.seq = some q → exec (.slotOpening k) s = .next (settleAttn (sent q))) ∧
        (∀ p : Fin 32, e.seq = none → e.dest = byteOf p.val →
          exec (.slotOpening k) s = .next (settleAttn { sent s.ptb.records[p].nextSeq with
            ptb := setRecord p { s.ptb.records[p] with nextSeq := s.ptb.records[p].nextSeq + 1 } s.ptb })) ∧
        (e.seq = none → e.dest = 255 →
          exec (.slotOpening k) s = .next (settleAttn { sent s.txq.broadcastSeq with
            txq := { (sent s.txq.broadcastSeq).txq with broadcastSeq := s.txq.broadcastSeq + 1 } })))

/-! ### Sending and echo -/

/-- The transmitter (R23): the next character begins while the comparison is OPEN and the echo list has room, and joins its
tail, and LTX carries it bit by bit: start bit 0, eight data bits least significant first, stop bit 1 (R1); a start bit due in
a frame cut at that moment is not begun, and the character just ended was the last (R25, R26; log entry 12); after the last
stop bit comes TRAILING, the comparison settling clean where every echo is in (R24; log entry 11); and LDE's release ends in
OFF, an open comparison going on (R24). LDE is asserted until then. A row that names one of these moments is that moment
whatever the bit timer stands at (log entry 35). -/
def Obligations.TransmitterSendsTheFrame : Prop :=
  ∀ (s : State) (own : OwnFrame), running s = true → s.lif.own = some own →
    (∀ c rest, own.comparison = .opened → s.lif.toSend = c :: rest → s.lif.echo.length ≤ 3 →
      (s.lif.transmitter = .lead ∨ s.lif.transmitter = .sending) →
      exec .ltxStartBit s = .next (settleAttn { s with lif := { s.lif with
        transmitter := .sending, bitTimer := 0, sending := some c, toSend := rest,
        echo := s.lif.echo ++ [{ value := c, elapsed := 0 }] } })) ∧
    (∀ c, s.lif.transmitter = .sending → s.lif.sending = some c →
      ltxPin s = if s.lif.bitTimer = 0 then .low
        else if 9 ≤ s.lif.bitTimer ∨ c.getLsbD (s.lif.bitTimer - 1) = true then .high else .low) ∧
    ((own.comparison = .collided ∨ own.comparison = .echoLost) → s.lif.transmitter = .sending → s.lif.toSend = [] →
      exec .ltxStartBit s = .next (settleAttn { s with lif := { s.lif with
        transmitter := .trailing, bitTimer := 0, sending := none } })) ∧
    (s.lif.transmitter = .sending → s.lif.toSend = [] →
      exec .lastStopBitEnd s = .next (settleAttn { s with lif := { s.lif with
        transmitter := .trailing, bitTimer := 0, sending := none,
        own := if own.comparison = .opened ∧ s.lif.echo = [] then some { own with comparison := .settledClean }
          else s.lif.own } })) ∧
    (s.lif.transmitter = .trailing → own.comparison = .opened →
      ∃ t, exec .ldeRelease s = .next t ∧
        t = settleAttn { s with lif := { s.lif with transmitter := .off, lde := false, bitTimer := 0, sending := none } } ∧
        (s.pins.vddOk = true → ldePin t = .low ∧ ltxPin t = .high))

/-- The echo comparison while it is OPEN (R24, R25): an equal character with a good stop bit takes the oldest off the echo
list, and with the last one in and the transmitter TRAILING the comparison settles clean; a different one, a framing error, or
a character that nothing was sent for in LEAD or SENDING is a collision, which is counted, empties the list and cuts the frame:
no further character begins, and in LEAD LDE is released and the frame ends; an own-marked frame in assembly goes on as one
that survives the collision (R49), which is marked on it (log entry 34). The Frame Receiver takes the character as it does with
no comparison (R13, R19), and a frame that ends with the character, in LEAD or with LDE released already, has the outcome that
a release of LDE would hand on (R27). That the Frame Receiver takes the character first and the outcome comes after, as last
sender shows, is the model's choice (log entry 16). -/
def Obligations.EchoComparison : Prop :=
  ((∀ a, FrameReceiver.atCollision (.inFrame a) = .inFrame { a with collided := a.ownMark }) ∧
    FrameReceiver.atCollision .awaitSync = .awaitSync ∧ FrameReceiver.atCollision .draining = .draining) ∧
  ∀ (s : State) (value : Byte) (stop lde : Bool) (d : Nat) (own : OwnFrame), running s = true →
    s.lif.receiver = .inCharacter lde d → s.lif.own = some own → own.comparison = .opened →
    ∃ r t, exec (.characterComplete value stop) { s with lif := { s.lif with own := none } } = .next r ∧
      exec (.characterComplete value stop) s = .next t ∧
      let struck : State := { r with
        frx := r.frx.atCollision, counters := { r.counters with collisions := oneMore r.counters.collisions } }
      let goesOn : State → Prop := fun x => t = { x with lif := t.lif }
      let ends : State → List Byte → Comparison → Prop := fun x toSend c =>
        ∃ u, exec .ldeRelease { x with lif := { x.lif with
            own := some { own with comparison := c }, transmitter := .trailing, echo := [], toSend := toSend } } = .next u ∧
          t = { u with lif := t.lif }
      let l := (characterHeard stop s).lif
      let collided : LineInterface :=
        { l with own := some { own with comparison := .collided }, echo := [], toSend := [] }
      (∀ c rest, s.lif.echo = c :: rest → c.value = value → stop = true →
        t.counters.collisions = s.counters.collisions ∧
        (s.lif.transmitter = .lead ∨ s.lif.transmitter = .sending ∨ rest ≠ [] →
          t.lif = { l with echo := rest } ∧ goesOn r) ∧
        (s.lif.transmitter = .trailing → rest = [] →
          t.lif = { l with echo := [], own := some { own with comparison := .settledClean } } ∧ goesOn r) ∧
        (s.lif.transmitter = .off → rest = [] →
          t.lif = { l with echo := [], own := none } ∧ ends r s.lif.toSend .settledClean)) ∧
      ((∃ c rest, s.lif.echo = c :: rest ∧ (c.value ≠ value ∨ stop = false)) ∨
        (s.lif.echo = [] ∧ (s.lif.transmitter = .lead ∨ s.lif.transmitter = .sending)) →
        t.counters.collisions = oneMore s.counters.collisions ∧
        (s.lif.transmitter = .sending ∨ s.lif.transmitter = .trailing → t.lif = collided ∧ goesOn struck) ∧
        (s.lif.transmitter = .lead →
          t.lif = { collided with transmitter := .off, lde := false, bitTimer := 0, sending := none, own := none } ∧
            ends struck [] .collided) ∧
        (s.lif.transmitter = .off → t.lif = { collided with own := none } ∧ ends struck [] .collided))

/-- Echo loss (R26): in SENDING or TRAILING the frame is cut and LDE still runs to its release. The frame ends ECHO_LOST at
that release, or at once where LDE was released already (R27): in LISTENING, ANNOUNCING, ACTIVE and LEAVING the station is then
HALTED with its notice, last sender UNKNOWN, the monitor's announcement, flag and refresh timer cleared (R34, R142, R154); an
entry on the line is back in the queue with its counts (R62), or in LEAVING withdrawn (R75). In UNJOINED and HALTED the station
does not change (R154, R159). A row that names the loss or the release is that moment whatever the counts stand at (log entry
35). -/
def Obligations.EchoLossHalts : Prop :=
  ∀ (s : State) (own : OwnFrame), running s = true → s.lif.own = some own →
    (own.comparison = .opened → s.lif.echo ≠ [] →
      (s.lif.transmitter = .sending ∨ s.lif.transmitter = .trailing →
        exec .echoLoss s = .next (settleAttn { s with lif := { s.lif with
          own := some { own with comparison := .echoLost }, echo := [], toSend := [] } })) ∧
      (s.lif.transmitter = .off →
        let b : State := { s with lif := { s.lif with own := none, echo := [], toSend := [] } }
        ∀ q ns, QueueTakesEchoLoss own b q ns →
          ∃ u, exec .echoLoss s = .next (settleAttn u) ∧ EndsEchoLost own q ns b u)) ∧
    (own.comparison = .echoLost → (s.lif.transmitter = .trailing ∨ s.lif.transmitter = .sending) →
      ∀ q ns, QueueTakesEchoLoss own (ownFrameGone s) q ns →
        ∃ u, exec .ldeRelease s = .next (settleAttn u) ∧ EndsEchoLost own q ns (ownFrameGone s) u)

/-! ### Outcomes of own frames -/

/-- The outcome of an entry's frame at LDE's release, which the row names (log entry 35) (R27, R34, R61, R62, R72, R86, R110).
In a state other than LEAVING, CLEAN makes the own number last sender and loads the beacon timer; a unicast entry then awaits
its reply and a broadcast entry completes. COLLIDED makes last sender UNKNOWN and counts one collision on the entry, which
completes at the collision limit and else returns to the queue. In LEAVING (R75, R157, R158) a collided entry is withdrawn, its
collision counted, a broadcast that went out clean completes, and the station reaches UNJOINED with LEFT after the entry's
notice; a clean unicast entry awaits its reply and the station stays. -/
def Obligations.EntryFrameOutcome : Prop :=
  (∀ (s : State) (own : OwnFrame) (h : Fin 16) (e : Entry), running s = true → s.lif.own = some own →
    own.requester = .transmitQueue → own.kind = .data → s.txq.current = some (.entry h) → s.txq.entries[h] = some e →
    e.state = .onLine → s.stc.station ≠ .leaving → s.stc.station ≠ .unjoined →
    (own.comparison = .settledClean → s.lif.transmitter = .trailing →
      let b := { ownFrameGone s with lastSender := some s.stc.config.ownNumber, ptb := beaconLoaded s }
      (∀ q, e.dest ≠ 255 → e.seq = some q →
        exec .ldeRelease s = .next (settleAttn { b with
          txq := setSlot h (some { e with state := .awaitingReply }) s.txq,
          rpu := { s.rpu with wait := some { handle := h, dest := e.dest, seq := q, candidate := false } } })) ∧
      (e.dest = 255 →
        exec .ldeRelease s = .next (settleAttn { b with
          txq := { setSlot h (some { e with state := .complete .sentBroadcast }) s.txq with current := none },
          notices := s.notices ++ [{ kind := .sent, subject := byteOf h.val, detail := 3 }] }))) ∧
    (own.comparison = .collided → (s.lif.transmitter = .trailing ∨ s.lif.transmitter = .sending) →
      let b := { ownFrameGone s with lastSender := none }
      let tried := { e with collisions := e.collisions + 1 }
      (s.stc.config.collisionLimit ≤ e.collisions + 1 →
        exec .ldeRelease s = .next (settleAttn { b with
          txq := { setSlot h (some { tried with state := .complete .failedCollisions }) s.txq with current := none },
          notices := s.notices ++ [{ kind := .failed, subject := byteOf h.val, detail := 2 }] })) ∧
      (e.collisions + 1 < s.stc.config.collisionLimit →
        exec .ldeRelease s = .next (settleAttn { b with
          txq := { setSlot h (some (returned s tried)) s.txq with current := none } })))) ∧
  (∀ (s : State) (own : OwnFrame) (h : Fin 16) (e : Entry), running s = true → s.lif.own = some own →
    own.requester = .transmitQueue → own.kind = .data → s.txq.current = some (.entry h) → s.txq.entries[h] = some e →
    e.state = .onLine → s.stc.station = .leaving →
    (own.comparison = .settledClean → s.lif.transmitter = .trailing → e.dest = 255 →
      ∃ u, exec .ldeRelease s = .next (settleAttn u) ∧
        LeavesAfter { kind := .sent, subject := byteOf h.val, detail := 3 }
          { ownFrameGone s with
            txq := { setSlot h (some { e with state := .complete .sentBroadcast }) s.txq with current := none } } u) ∧
    (own.comparison = .settledClean → s.lif.transmitter = .trailing → ∀ q, e.dest ≠ 255 → e.seq = some q →
      exec .ldeRelease s = .next (settleAttn { ownFrameGone s with
        lastSender := some s.stc.config.ownNumber, ptb := beaconLoaded s,
        txq := setSlot h (some { e with state := .awaitingReply }) s.txq,
        rpu := { s.rpu with wait := some { handle := h, dest := e.dest, seq := q, candidate := false } } })) ∧
    (own.comparison = .collided → (s.lif.transmitter = .trailing ∨ s.lif.transmitter = .sending) →
      ∃ u, exec .ldeRelease s = .next (settleAttn u) ∧
        LeavesAfter { kind := .failed, subject := byteOf h.val, detail := 3 }
          { ownFrameGone s with
            txq := { setSlot h (some { e with collisions := e.collisions + 1, state := .complete .failedWithdrawn })
              s.txq with current := none } } u))

/-- The outcomes of the part's own announcements, beacons and ACKs at LDE's release, which the row names (log entry 35), in
every station state (R27, R34, R59, R61, R84, R110, R137, R138): COLLIDED makes last sender UNKNOWN and leaves announcement and
beacon pending, a joining beacon too (R47); CLEAN loads the beacon timer and, but for an ACK, makes the own number last sender;
a BEACON is no longer pending. In ACTIVE a PAUSE sets the announced flag, loading the refresh timer while CONGESTED and owing a
RESUME while NORMAL, and a RESUME clears flag and timer, owing a PAUSE while CONGESTED; in any other state the monitor takes no
outcome (R139). In UNJOINED last sender and beacon timer stay as they are (R35, R110, R159). A joining beacon that ends CLEAN
in ANNOUNCING is JoiningBeaconActivates'. -/
def Obligations.AnnouncementBeaconAckOutcome : Prop :=
  ∀ (s : State) (own : OwnFrame), running s = true → s.lif.own = some own →
    (own.comparison = .settledClean → s.lif.transmitter = .trailing →
      let b : State := { ownFrameGone s with ptb := if s.stc.station = .unjoined then s.ptb else beaconLoaded s }
      let c : State := { b with
        lastSender := if s.stc.station = .unjoined then s.lastSender else some s.stc.config.ownNumber,
        txq := { s.txq with current := none } }
      (own.requester = .replyUnit → own.kind = .ack →
        exec .ldeRelease s = .next (settleAttn { b with
          rpu := { s.rpu with pending := s.rpu.pending.filter fun r => !r.sending } })) ∧
      (own.requester = .transmitQueue → own.kind = .beacon → (∃ j, s.txq.current = some (.beacon j)) →
        own.joining = false ∨ s.stc.station ≠ .announcing →
        exec .ldeRelease s = .next (settleAttn { c with txq := { s.txq with current := none, beacon := .none } })) ∧
      (own.requester = .transmitQueue → own.kind = .pause → s.txq.current = some (.announcement .pause) →
        exec .ldeRelease s = .next (settleAttn { c with cgm :=
          if s.stc.station ≠ .active then s.cgm
          else if s.cgm.congested = true then
            { s.cgm with announced := true, refreshTimer := some (max 2 (s.stc.config.pauseHold / 2)),
                         announcement := if s.cgm.announcement = some .pause then none else s.cgm.announcement }
          else { s.cgm with announced := true, announcement := some .resume } })) ∧
      (own.requester = .transmitQueue → own.kind = .resume → s.txq.current = some (.announcement .resume) →
        exec .ldeRelease s = .next (settleAttn { c with cgm :=
          if s.stc.station ≠ .active then s.cgm
          else if s.cgm.congested = true then
            { s.cgm with announced := false, refreshTimer := none, announcement := some .pause }
          else { s.cgm with announced := false, refreshTimer := none,
                            announcement := if s.cgm.announcement = some .resume then none
                              else s.cgm.announcement } }))) ∧
    (own.comparison = .collided → (s.lif.transmitter = .trailing ∨ s.lif.transmitter = .sending) →
      (own.requester = .replyUnit → own.kind = .ack →
        exec .ldeRelease s = .next (settleAttn { ownFrameGone s with
          lastSender := senderLost s, rpu := { s.rpu with pending := s.rpu.pending.filter fun r => !r.sending } })) ∧
      (own.requester = .transmitQueue →
        ((∃ a, s.txq.current = some (.announcement a)) ∨ ∃ j, s.txq.current = some (.beacon j)) →
        exec .ldeRelease s = .next (settleAttn { ownFrameGone s with
          lastSender := senderLost s, txq := { s.txq with current := none } })))

/-- A joining BEACON that ends CLEAN in ANNOUNCING makes the station ACTIVE with a JOINED notice naming the own number and N;
last sender is the own number, the beacon timer is loaded, the pending beacon is NONE, and PAUSE is pending if the pool is
CONGESTED (R34, R59, R110, R141, R153). The row names the release of LDE that ends the frame (log entry 35). -/
def Obligations.JoiningBeaconActivates : Prop :=
  ∀ (s : State) (own : OwnFrame), running s = true → s.lif.own = some own → s.stc.station = .announcing →
    own.comparison = .settledClean → s.lif.transmitter = .trailing → own.requester = .transmitQueue →
    own.kind = .beacon → own.joining = true → s.txq.current = some (.beacon true) →
    ∃ u, exec .ldeRelease s = .next (settleAttn u) ∧
      u = { ownFrameGone s with
        lastSender := some s.stc.config.ownNumber,
        txq := { s.txq with current := none, beacon := .none },
        ptb := beaconLoaded s,
        cgm := if s.cgm.congested = true then { s.cgm with announcement := some .pause } else s.cgm,
        stc := { s.stc with station := .active, listeningRound := none },
        notices := u.notices, counters := u.counters } ∧
      NoticeOffered { kind := .joined, subject := byteOf s.stc.config.ownNumber, detail := byteOf s.stc.config.ladderSize }
        s u

/-! ### Tick and slow timers -/

/-- TICK (R17, R18): the tick base is 0, every running timer has counted down by one, and those that reach 0 have expired and
acted: a silence timer has lost its peer (R100), a pause timer has unpaused it (R105), the beacon timer has made a plain beacon
pending in ACTIVE (R111), the refresh timer a PAUSE if nothing was pending (R140), the delivery timer has set the stale flag
(R128); the entries to an unpaused peer wait again (R68). Each peer lost gives PEER_LOST, and each other peer unpaused
PEER_RESUMED with EXPIRY (R100, R105); their order is free (log entry 5). Of the counters only the count of lost notices moves.
Where the tick base stood elsewhere, a bit-time boundary has passed (R16; log entry 23). -/
def Obligations.TickCountsEveryTimer : Prop :=
  ∀ s : State, running s = true →
    ∃ u, exec .tick s = .next (settleAttn u) ∧
      let down : Option Nat → Option Nat := fun t => t.bind fun n => if n ≤ 1 then none else some (n - 1)
      let ends : Option Nat → Prop := fun t => ∃ n, t = some n ∧ n ≤ 1
      let b := if s.lif.tickBase = 0 then s else atBoundary s
      u = { b with
        lif := { b.lif with tickBase := 0 },
        txq := { s.txq with entries := u.txq.entries, beacon := u.txq.beacon },
        ptb := u.ptb, cgm := u.cgm, rxp := u.rxp, notices := u.notices, counters := u.counters, choices := u.choices } ∧
      (∀ p : Fin 32, let r := s.ptb.records[p]
        (ends r.silence → u.ptb.records[p] =
          { r with present := false, silence := none, paused := false, pauseTimer := none, lastReceived := none }) ∧
        (¬ ends r.silence → ends r.pauseTimer → u.ptb.records[p] =
          { r with silence := down r.silence, paused := false, pauseTimer := none }) ∧
        (¬ ends r.silence → ¬ ends r.pauseTimer → u.ptb.records[p] =
          { r with silence := down r.silence, pauseTimer := down r.pauseTimer })) ∧
      (∀ h : Fin 16, ∀ e, s.txq.entries[h] = some e → ∃ e', u.txq.entries[h] = some e' ∧
        ((e.state = .held ∧ ∃ p : Fin 32, e.dest = byteOf p.val ∧ s.ptb.records[p].paused = true ∧
            (ends s.ptb.records[p].silence ∨ ends s.ptb.records[p].pauseTimer)) →
          e' = { e with state := .waiting }) ∧
        (¬ (e.state = .held ∧ ∃ p : Fin 32, e.dest = byteOf p.val ∧ s.ptb.records[p].paused = true ∧
            (ends s.ptb.records[p].silence ∨ ends s.ptb.records[p].pauseTimer)) → e' = e)) ∧
      (∀ h : Fin 16, s.txq.entries[h] = none → u.txq.entries[h] = none) ∧
      u.ptb.beaconTimer = down s.ptb.beaconTimer ∧
      (ends s.ptb.beaconTimer → s.stc.station = .active → u.txq.beacon = .plain) ∧
      (¬ (ends s.ptb.beaconTimer ∧ s.stc.station = .active) → u.txq.beacon = s.txq.beacon) ∧
      (ends s.cgm.refreshTimer → u.cgm =
        { s.cgm with refreshTimer := none,
                     announcement := if s.cgm.announcement = none then some .pause else s.cgm.announcement }) ∧
      (¬ ends s.cgm.refreshTimer → u.cgm = { s.cgm with refreshTimer := down s.cgm.refreshTimer }) ∧
      (ends s.rxp.deliveryTimer → u.rxp = { s.rxp with stale := true, deliveryTimer := none }) ∧
      (¬ ends s.rxp.deliveryTimer → u.rxp = { s.rxp with deliveryTimer := down s.rxp.deliveryTimer }) ∧
      ∃ ns : List Notice, ns.Nodup ∧ OfferedInOrder ns s u ∧
        ∀ n : Notice, n ∈ ns ↔ ∃ p : Fin 32,
          (ends s.ptb.records[p].silence ∧ n = { kind := .peerLost, subject := byteOf p.val, detail := 0 }) ∨
          (¬ ends s.ptb.records[p].silence ∧ ends s.ptb.records[p].pauseTimer ∧ s.ptb.records[p].paused = true ∧
            n = { kind := .peerResumed, subject := byteOf p.val, detail := 2 })

/-- The expiries of the timers that a tick event brings to 0, which a row names one by one (R18; log entry 8): of a silence
timer, the peer is lost with PEER_LOST, its pause ended and its last-received sequence dropped (R100); of a pause timer, the
peer is unpaused with PEER_RESUMED, EXPIRY, or lost where its silence timer expires at that same tick event (R105); either
releases the entries HELD to it (R68); of the beacon timer, a plain beacon is pending in ACTIVE (R111); of the refresh timer, a
PAUSE is pending unless something is (R140); of the delivery timer, the stale flag is set (R128). -/
def Obligations.TimerExpiriesAct : Prop :=
  ∀ s : State, running s = true →
    let ends : Option Nat → Prop := fun timer => ∃ n, timer = some n ∧ n ≤ 1
    let lost : Fin 32 → Peer → State → Prop := fun p r u =>
      u = { s with
        ptb := setRecord p { r with present := false, silence := none, paused := false, pauseTimer := none,
                                    lastReceived := none } s.ptb,
        txq := { s.txq with entries := u.txq.entries }, notices := u.notices, counters := u.counters } ∧
      EntriesMapped (if r.paused = true then releasedBy p else id) s u ∧
      NoticeOffered { kind := .peerLost, subject := byteOf p.val, detail := 0 } s u;
    (∀ (p : Fin 32) (r : Peer), s.ptb.records[p] = r → ends r.silence →
      ∃ u, exec (.silenceTimerExpiry p) s = .next (settleAttn u) ∧ lost p r u) ∧
    (∀ (p : Fin 32) (r : Peer), s.ptb.records[p] = r → ends r.pauseTimer → ends r.silence →
      ∃ u, exec (.pauseTimerExpiry p) s = .next (settleAttn u) ∧ lost p r u) ∧
    (∀ (p : Fin 32) (r : Peer), s.ptb.records[p] = r → ends r.pauseTimer → ¬ ends r.silence → r.paused = true →
      ∃ u, exec (.pauseTimerExpiry p) s = .next (settleAttn u) ∧
        u = { s with
          ptb := setRecord p { r with paused := false, pauseTimer := none } s.ptb,
          txq := { s.txq with entries := u.txq.entries }, notices := u.notices, counters := u.counters } ∧
        EntriesMapped (releasedBy p) s u ∧
        NoticeOffered { kind := .peerResumed, subject := byteOf p.val, detail := 2 } s u) ∧
    (ends s.ptb.beaconTimer →
      exec .beaconTimerExpiry s = .next (settleAttn { s with
        ptb := { s.ptb with beaconTimer := none },
        txq := if s.stc.station = .active then { s.txq with beacon := .plain } else s.txq })) ∧
    (ends s.cgm.refreshTimer →
      exec .refreshTimerExpiry s = .next (settleAttn { s with cgm := { s.cgm with
        refreshTimer := none,
        announcement := if s.cgm.announcement = none then some .pause else s.cgm.announcement } })) ∧
    (ends s.rxp.deliveryTimer →
      exec .deliveryTimerExpiry s = .next (settleAttn { s with rxp := { s.rxp with
        stale := true, deliveryTimer := none } }))

/-! ### Invariants that every step keeps -/

/-- Every field of the configuration record stays in its range: SET FIELD refuses any other value, and nothing writes the
record but a SET FIELD that executes in UNJOINED and a hardware reset, which returns it to the defaults (R144, R145): JOIN
freezes it. -/
def Obligations.ConfigStaysInRange : Prop :=
  (KeptByStep fun s => ConfigLaw s.stc.config) ∧
  ∀ (i : Instr) (s t : State), exec i s = .next t →
    t.stc.config = s.stc.config ∨
    (t.stc.config = ConfigRecord.defaults ∧
      ((running s = true ∧ (i = .hardwareReset ∨ i = .vddOutOfRange)) ∨
        (running s = false ∧ ∃ lrx, i = .nresetRelease lrx ∨ i = .vddReturn lrx))) ∨
    (s.stc.station = .unjoined ∧ ∃ (id : Byte) (v : List Byte) (f : FieldId),
      fieldOfId id = some f ∧ writeField s.stc.config f v = some t.stc.config ∧
      ((i = .setField id v ∧ portTakes (.setField id v) s = true) ∨
        ∃ hdi, i = .hckEdge true hdi ∧ portLive s = true ∧
          readCommand (s.hpt.taken ++ [byteOf (numberOfBits (s.hpt.bits ++ [hdi]))]) = some (.setField id v)))

/-- The fill stays the sum of the blocks of the records in the two lanes and never exceeds 48, and the records of URGENT, and
those alone, carry a watch index (R114, R115, R118). -/
def Obligations.FillIsTheSumOfBlocks : Prop := KeptByStep fun s => PoolLaw s.rxp

/-- At most 16 informational notices wait, and the completion notices stand one for one with the COMPLETE entries, each naming
its entry's handle and outcome (R72, R172). -/
def Obligations.CompletionNoticesMatchEntries : Prop := KeptByStep NoticeLaw

/-- Where that law holds, the number of COMPLETE entries equals the number of completion notices in the queue, which holds at
most 32 notices, of which at most 16 are informational and at most 16 completion notices (R72, R172). -/
def Obligations.NoticeQueueIsBounded : Prop :=
  ∀ s : State, NoticeLaw s →
    (s.notices.filter fun n => n.kind.isCompletion).length =
      (allHandles.filter fun h => entryIs s.txq EntryState.isComplete h).length ∧
    (s.notices.filter fun n => n.kind.isCompletion).length ≤ 16 ∧ s.notices.length ≤ 32

/-- A peer record carries a pause timer exactly while it is paused and a silence timer exactly while it is PRESENT, a paused
record is PRESENT, and a running timer holds 1..4095 ticks (R97), while the configuration stays in range. -/
def Obligations.PeerRecordsStaySound : Prop :=
  KeptByStep fun s => ConfigLaw s.stc.config ∧ PeersLaw s

/-- At most one entry is ON_LINE or AWAITING_REPLY and it is the current frame (R52, R58); every entry neither FREE nor
COMPLETE has both counts below their limits (R61, R65) and is HELD or WAITING as its destination is paused or not (R54); and an
entry awaits its reply exactly while the reply wait names it (R78), while the laws of configuration and notices hold. -/
def Obligations.QueueStaysSound : Prop :=
  KeptByStep fun s => ConfigLaw s.stc.config ∧ NoticeLaw s ∧ QueueLaw s

/-- In UNJOINED the peer table is cleared, and in every state a record that is not in use is (R97, R112, R113), while the laws
of configuration, notices and queue hold. -/
def Obligations.UnusedRecordsStayCleared : Prop :=
  KeptByStep fun s => ConfigLaw s.stc.config ∧ NoticeLaw s ∧ QueueLaw s ∧ TableLaw s

/-- The congestion state follows the fill between the marks in force, PAUSE is pending only while CONGESTED and RESUME only
while NORMAL, and outside ACTIVE nothing is announced, pending or timed (R132, R134, R135, R142), while the configuration stays
in range. -/
def Obligations.CongestionFollowsTheFill : Prop :=
  KeptByStep fun s => ConfigLaw s.stc.config ∧ MonitorLaw s

/-- Last sender is UNKNOWN or below N, and UNKNOWN in UNJOINED; a joined station's number is below N; and the listening round
is present exactly in LISTENING (R30, R35, R148, R152). -/
def Obligations.LastSenderStaysBelowLadderSize : Prop := KeptByStep LadderLaw

/-- LDE is asserted exactly while the transmitter is not OFF, an own frame is in progress until its comparison is judged and
LDE released, the echo list holds at most four characters, and the idle time is held at 0 while a character is received or the
line is held (R20, R22 to R27). -/
def Obligations.LineStaysSound : Prop := KeptByStep fun s => LineLaw s.lif

/-- A frame being assembled has taken its fields in order, its running check is the check of R5 over them, and no payload of a
record or an entry is longer than 60 bytes (R5, R9, R52, R115). -/
def Obligations.AssemblyStaysSound : Prop := KeptByStep fun s => ReceiverLaw s ∧ PayloadLaw s

/-- The host port is DESELECTED exactly while HCS is high, a byte in progress has fewer than eight bits, a command being taken
is not complete, and an answer is left to clock out in ANSWERING (R161, R162, R163). -/
def Obligations.PortStaysSound : Prop := KeptByStep PortLaw

/-- Every statistics counter stays within 0..65535 (R175), and ATTN has the level that its causes and the mask give
(R177, R178). -/
def Obligations.CountersSaturateAndAttnFollows : Prop := KeptByStep fun s => CountersLaw s.counters ∧ AttnLaw s

/-- Every law above holds in the state after a hardware reset. -/
def Obligations.ResetKeepsEveryLaw : Prop :=
  ConfigLaw State.reset.stc.config ∧ PoolLaw State.reset.rxp ∧ NoticeLaw State.reset ∧ PeersLaw State.reset ∧
    QueueLaw State.reset ∧ TableLaw State.reset ∧ MonitorLaw State.reset ∧ LadderLaw State.reset ∧
    LineLaw State.reset.lif ∧ ReceiverLaw State.reset ∧ PayloadLaw State.reset ∧ PortLaw State.reset ∧
    CountersLaw State.reset.counters ∧ AttnLaw State.reset

/-- After a hardware reset every field of the record is at its default (R144, R117), every entry is FREE and the queue's
counters 0 (R77), the marks are 36 and 24 (R143), the pool, the notice queue and the counters are empty or 0 (R131, R167,
R175), the station is UNJOINED (R160), the bit time that of divisor 13, the receiver UNARMED and the Frame Receiver DRAINING
(R7, R19), and LDE is released (R29). That HCS is high and LRX reads 1 is the model's choice (log entries 1, 2). -/
def Obligations.ResetValues : Prop :=
  State.reset = { State.reset with
    lif := { State.reset.lif with
      divisor := 13, startDivisor := 13, tickBase := 0, receiver := .unarmed true, idle := 0, transmitter := .off,
      lde := false, echo := [], own := none },
    frx := .draining, lastSender := none,
    rpu := { pending := none, wait := none },
    rxp := { urgent := [], normal := [], fill := 0, deliveryTimer := none, stale := false },
    cgm := { congested := false, announced := false, announcement := none, refreshTimer := none, highMark := 36,
             lowMark := 24 },
    stc := { station := .unjoined, listeningRound := none, config :=
      { ownNumber := 0, ladderSize := 8, divisor := 13, slotWidth := 4, replyWindow := 8, retryLimit := 4,
        collisionLimit := 8, highMark := 36, lowMark := 24, pauseHold := 64, presenceTimeout := 512,
        deliveryThreshold := 1, deliveryTimeout := 0,
        attnMask := { notices := true, urgent := true, threshold := true, stale := true },
        watches := Vector.replicate 4 { enabled := false, source := none, value := 0, mask := 0 } } },
    hpt := { State.reset.hpt with port := .deselected, taken := [], answer := [], attn := false },
    notices := [] } ∧
  (∀ h : Fin 16, State.reset.txq.entries[h] = none) ∧
  State.reset.txq.submissions = 0 ∧ State.reset.txq.broadcastSeq = 0 ∧ State.reset.txq.beacon = .none ∧
  State.reset.txq.current = none ∧
  (∀ p : Fin 32, State.reset.ptb.records[p] =
    { present := false, silence := none, paused := false, pauseTimer := none, nextSeq := 0, lastReceived := none }) ∧
  State.reset.ptb.beaconTimer = none ∧
  (∀ n ∈ State.reset.counters.values, n = 0)
end

