-- ==== Sys2Proof/Laws/State.lean ====
section
/-! SUPPORT. One lemma for each field of State and each of the updates that the operations are built from, true by rfl: a proof
reads a field through an update with simp, and unfolds no record. -/

namespace Sys2Proof.Machine

variable (s : State)

/-! ### setEntry -/

@[simp] theorem setEntry_pins (h : Fin 16) (e : Option Entry) : (setEntry h e s).pins = s.pins := rfl
@[simp] theorem setEntry_lif (h : Fin 16) (e : Option Entry) : (setEntry h e s).lif = s.lif := rfl
@[simp] theorem setEntry_frx (h : Fin 16) (e : Option Entry) : (setEntry h e s).frx = s.frx := rfl
@[simp] theorem setEntry_lastSender (h : Fin 16) (e : Option Entry) : (setEntry h e s).lastSender = s.lastSender := rfl
@[simp] theorem setEntry_txq (h : Fin 16) (e : Option Entry) : (setEntry h e s).txq = { s.txq with entries := s.txq.entries.set h e } := rfl
@[simp] theorem setEntry_rpu (h : Fin 16) (e : Option Entry) : (setEntry h e s).rpu = s.rpu := rfl
@[simp] theorem setEntry_ptb (h : Fin 16) (e : Option Entry) : (setEntry h e s).ptb = s.ptb := rfl
@[simp] theorem setEntry_rxp (h : Fin 16) (e : Option Entry) : (setEntry h e s).rxp = s.rxp := rfl
@[simp] theorem setEntry_cgm (h : Fin 16) (e : Option Entry) : (setEntry h e s).cgm = s.cgm := rfl
@[simp] theorem setEntry_stc (h : Fin 16) (e : Option Entry) : (setEntry h e s).stc = s.stc := rfl
@[simp] theorem setEntry_hpt (h : Fin 16) (e : Option Entry) : (setEntry h e s).hpt = s.hpt := rfl
@[simp] theorem setEntry_notices (h : Fin 16) (e : Option Entry) : (setEntry h e s).notices = s.notices := rfl
@[simp] theorem setEntry_counters (h : Fin 16) (e : Option Entry) : (setEntry h e s).counters = s.counters := rfl
@[simp] theorem setEntry_choices (h : Fin 16) (e : Option Entry) : (setEntry h e s).choices = s.choices := rfl
@[simp] theorem setEntry_pending (h : Fin 16) (e : Option Entry) : (setEntry h e s).pending = s.pending := rfl

/-! ### setCurrent -/

@[simp] theorem setCurrent_pins (c : Option CurrentFrame) : (setCurrent c s).pins = s.pins := rfl
@[simp] theorem setCurrent_lif (c : Option CurrentFrame) : (setCurrent c s).lif = s.lif := rfl
@[simp] theorem setCurrent_frx (c : Option CurrentFrame) : (setCurrent c s).frx = s.frx := rfl
@[simp] theorem setCurrent_lastSender (c : Option CurrentFrame) : (setCurrent c s).lastSender = s.lastSender := rfl
@[simp] theorem setCurrent_txq (c : Option CurrentFrame) : (setCurrent c s).txq = { s.txq with current := c } := rfl
@[simp] theorem setCurrent_rpu (c : Option CurrentFrame) : (setCurrent c s).rpu = s.rpu := rfl
@[simp] theorem setCurrent_ptb (c : Option CurrentFrame) : (setCurrent c s).ptb = s.ptb := rfl
@[simp] theorem setCurrent_rxp (c : Option CurrentFrame) : (setCurrent c s).rxp = s.rxp := rfl
@[simp] theorem setCurrent_cgm (c : Option CurrentFrame) : (setCurrent c s).cgm = s.cgm := rfl
@[simp] theorem setCurrent_stc (c : Option CurrentFrame) : (setCurrent c s).stc = s.stc := rfl
@[simp] theorem setCurrent_hpt (c : Option CurrentFrame) : (setCurrent c s).hpt = s.hpt := rfl
@[simp] theorem setCurrent_notices (c : Option CurrentFrame) : (setCurrent c s).notices = s.notices := rfl
@[simp] theorem setCurrent_counters (c : Option CurrentFrame) : (setCurrent c s).counters = s.counters := rfl
@[simp] theorem setCurrent_choices (c : Option CurrentFrame) : (setCurrent c s).choices = s.choices := rfl
@[simp] theorem setCurrent_pending (c : Option CurrentFrame) : (setCurrent c s).pending = s.pending := rfl

/-! ### setBeacon -/

@[simp] theorem setBeacon_pins (b : PendingBeacon) : (setBeacon b s).pins = s.pins := rfl
@[simp] theorem setBeacon_lif (b : PendingBeacon) : (setBeacon b s).lif = s.lif := rfl
@[simp] theorem setBeacon_frx (b : PendingBeacon) : (setBeacon b s).frx = s.frx := rfl
@[simp] theorem setBeacon_lastSender (b : PendingBeacon) : (setBeacon b s).lastSender = s.lastSender := rfl
@[simp] theorem setBeacon_txq (b : PendingBeacon) : (setBeacon b s).txq = { s.txq with beacon := b } := rfl
@[simp] theorem setBeacon_rpu (b : PendingBeacon) : (setBeacon b s).rpu = s.rpu := rfl
@[simp] theorem setBeacon_ptb (b : PendingBeacon) : (setBeacon b s).ptb = s.ptb := rfl
@[simp] theorem setBeacon_rxp (b : PendingBeacon) : (setBeacon b s).rxp = s.rxp := rfl
@[simp] theorem setBeacon_cgm (b : PendingBeacon) : (setBeacon b s).cgm = s.cgm := rfl
@[simp] theorem setBeacon_stc (b : PendingBeacon) : (setBeacon b s).stc = s.stc := rfl
@[simp] theorem setBeacon_hpt (b : PendingBeacon) : (setBeacon b s).hpt = s.hpt := rfl
@[simp] theorem setBeacon_notices (b : PendingBeacon) : (setBeacon b s).notices = s.notices := rfl
@[simp] theorem setBeacon_counters (b : PendingBeacon) : (setBeacon b s).counters = s.counters := rfl
@[simp] theorem setBeacon_choices (b : PendingBeacon) : (setBeacon b s).choices = s.choices := rfl
@[simp] theorem setBeacon_pending (b : PendingBeacon) : (setBeacon b s).pending = s.pending := rfl

/-! ### pauseEntries -/

@[simp] theorem pauseEntries_pins (p : Fin 32) (b : Bool) : (pauseEntries p b s).pins = s.pins := rfl
@[simp] theorem pauseEntries_lif (p : Fin 32) (b : Bool) : (pauseEntries p b s).lif = s.lif := rfl
@[simp] theorem pauseEntries_frx (p : Fin 32) (b : Bool) : (pauseEntries p b s).frx = s.frx := rfl
@[simp] theorem pauseEntries_lastSender (p : Fin 32) (b : Bool) : (pauseEntries p b s).lastSender = s.lastSender := rfl
@[simp] theorem pauseEntries_txq (p : Fin 32) (b : Bool) : (pauseEntries p b s).txq = { s.txq with entries := mapCells (fun e => e.map (entryAfterPause p b)) s.txq.entries } := rfl
@[simp] theorem pauseEntries_rpu (p : Fin 32) (b : Bool) : (pauseEntries p b s).rpu = s.rpu := rfl
@[simp] theorem pauseEntries_ptb (p : Fin 32) (b : Bool) : (pauseEntries p b s).ptb = s.ptb := rfl
@[simp] theorem pauseEntries_rxp (p : Fin 32) (b : Bool) : (pauseEntries p b s).rxp = s.rxp := rfl
@[simp] theorem pauseEntries_cgm (p : Fin 32) (b : Bool) : (pauseEntries p b s).cgm = s.cgm := rfl
@[simp] theorem pauseEntries_stc (p : Fin 32) (b : Bool) : (pauseEntries p b s).stc = s.stc := rfl
@[simp] theorem pauseEntries_hpt (p : Fin 32) (b : Bool) : (pauseEntries p b s).hpt = s.hpt := rfl
@[simp] theorem pauseEntries_notices (p : Fin 32) (b : Bool) : (pauseEntries p b s).notices = s.notices := rfl
@[simp] theorem pauseEntries_counters (p : Fin 32) (b : Bool) : (pauseEntries p b s).counters = s.counters := rfl
@[simp] theorem pauseEntries_choices (p : Fin 32) (b : Bool) : (pauseEntries p b s).choices = s.choices := rfl
@[simp] theorem pauseEntries_pending (p : Fin 32) (b : Bool) : (pauseEntries p b s).pending = s.pending := rfl

/-! ### setMonitor -/

@[simp] theorem setMonitor_pins (m : CongestionMonitor) : (setMonitor m s).pins = s.pins := rfl
@[simp] theorem setMonitor_lif (m : CongestionMonitor) : (setMonitor m s).lif = s.lif := rfl
@[simp] theorem setMonitor_frx (m : CongestionMonitor) : (setMonitor m s).frx = s.frx := rfl
@[simp] theorem setMonitor_lastSender (m : CongestionMonitor) : (setMonitor m s).lastSender = s.lastSender := rfl
@[simp] theorem setMonitor_txq (m : CongestionMonitor) : (setMonitor m s).txq = s.txq := rfl
@[simp] theorem setMonitor_rpu (m : CongestionMonitor) : (setMonitor m s).rpu = s.rpu := rfl
@[simp] theorem setMonitor_ptb (m : CongestionMonitor) : (setMonitor m s).ptb = s.ptb := rfl
@[simp] theorem setMonitor_rxp (m : CongestionMonitor) : (setMonitor m s).rxp = s.rxp := rfl
@[simp] theorem setMonitor_cgm (m : CongestionMonitor) : (setMonitor m s).cgm = m := rfl
@[simp] theorem setMonitor_stc (m : CongestionMonitor) : (setMonitor m s).stc = s.stc := rfl
@[simp] theorem setMonitor_hpt (m : CongestionMonitor) : (setMonitor m s).hpt = s.hpt := rfl
@[simp] theorem setMonitor_notices (m : CongestionMonitor) : (setMonitor m s).notices = s.notices := rfl
@[simp] theorem setMonitor_counters (m : CongestionMonitor) : (setMonitor m s).counters = s.counters := rfl
@[simp] theorem setMonitor_choices (m : CongestionMonitor) : (setMonitor m s).choices = s.choices := rfl
@[simp] theorem setMonitor_pending (m : CongestionMonitor) : (setMonitor m s).pending = s.pending := rfl

/-! ### setPeer -/

@[simp] theorem setPeer_pins (p : Fin 32) (r : Peer) : (setPeer p r s).pins = s.pins := rfl
@[simp] theorem setPeer_lif (p : Fin 32) (r : Peer) : (setPeer p r s).lif = s.lif := rfl
@[simp] theorem setPeer_frx (p : Fin 32) (r : Peer) : (setPeer p r s).frx = s.frx := rfl
@[simp] theorem setPeer_lastSender (p : Fin 32) (r : Peer) : (setPeer p r s).lastSender = s.lastSender := rfl
@[simp] theorem setPeer_txq (p : Fin 32) (r : Peer) : (setPeer p r s).txq = s.txq := rfl
@[simp] theorem setPeer_rpu (p : Fin 32) (r : Peer) : (setPeer p r s).rpu = s.rpu := rfl
@[simp] theorem setPeer_ptb (p : Fin 32) (r : Peer) : (setPeer p r s).ptb = { s.ptb with records := s.ptb.records.set p r } := rfl
@[simp] theorem setPeer_rxp (p : Fin 32) (r : Peer) : (setPeer p r s).rxp = s.rxp := rfl
@[simp] theorem setPeer_cgm (p : Fin 32) (r : Peer) : (setPeer p r s).cgm = s.cgm := rfl
@[simp] theorem setPeer_stc (p : Fin 32) (r : Peer) : (setPeer p r s).stc = s.stc := rfl
@[simp] theorem setPeer_hpt (p : Fin 32) (r : Peer) : (setPeer p r s).hpt = s.hpt := rfl
@[simp] theorem setPeer_notices (p : Fin 32) (r : Peer) : (setPeer p r s).notices = s.notices := rfl
@[simp] theorem setPeer_counters (p : Fin 32) (r : Peer) : (setPeer p r s).counters = s.counters := rfl
@[simp] theorem setPeer_choices (p : Fin 32) (r : Peer) : (setPeer p r s).choices = s.choices := rfl
@[simp] theorem setPeer_pending (p : Fin 32) (r : Peer) : (setPeer p r s).pending = s.pending := rfl

/-! ### clearTable -/

@[simp] theorem clearTable_pins : (clearTable s).pins = s.pins := rfl
@[simp] theorem clearTable_lif : (clearTable s).lif = s.lif := rfl
@[simp] theorem clearTable_frx : (clearTable s).frx = s.frx := rfl
@[simp] theorem clearTable_lastSender : (clearTable s).lastSender = s.lastSender := rfl
@[simp] theorem clearTable_txq : (clearTable s).txq = s.txq := rfl
@[simp] theorem clearTable_rpu : (clearTable s).rpu = s.rpu := rfl
@[simp] theorem clearTable_ptb : (clearTable s).ptb = PeerTable.cleared := rfl
@[simp] theorem clearTable_rxp : (clearTable s).rxp = s.rxp := rfl
@[simp] theorem clearTable_cgm : (clearTable s).cgm = s.cgm := rfl
@[simp] theorem clearTable_stc : (clearTable s).stc = s.stc := rfl
@[simp] theorem clearTable_hpt : (clearTable s).hpt = s.hpt := rfl
@[simp] theorem clearTable_notices : (clearTable s).notices = s.notices := rfl
@[simp] theorem clearTable_counters : (clearTable s).counters = s.counters := rfl
@[simp] theorem clearTable_choices : (clearTable s).choices = s.choices := rfl
@[simp] theorem clearTable_pending : (clearTable s).pending = s.pending := rfl

/-! ### setPool -/

@[simp] theorem setPool_pins (p : ReceivePool) : (setPool p s).pins = s.pins := rfl
@[simp] theorem setPool_lif (p : ReceivePool) : (setPool p s).lif = s.lif := rfl
@[simp] theorem setPool_frx (p : ReceivePool) : (setPool p s).frx = s.frx := rfl
@[simp] theorem setPool_lastSender (p : ReceivePool) : (setPool p s).lastSender = s.lastSender := rfl
@[simp] theorem setPool_txq (p : ReceivePool) : (setPool p s).txq = s.txq := rfl
@[simp] theorem setPool_rpu (p : ReceivePool) : (setPool p s).rpu = s.rpu := rfl
@[simp] theorem setPool_ptb (p : ReceivePool) : (setPool p s).ptb = s.ptb := rfl
@[simp] theorem setPool_rxp (p : ReceivePool) : (setPool p s).rxp = p := rfl
@[simp] theorem setPool_cgm (p : ReceivePool) : (setPool p s).cgm = s.cgm := rfl
@[simp] theorem setPool_stc (p : ReceivePool) : (setPool p s).stc = s.stc := rfl
@[simp] theorem setPool_hpt (p : ReceivePool) : (setPool p s).hpt = s.hpt := rfl
@[simp] theorem setPool_notices (p : ReceivePool) : (setPool p s).notices = s.notices := rfl
@[simp] theorem setPool_counters (p : ReceivePool) : (setPool p s).counters = s.counters := rfl
@[simp] theorem setPool_choices (p : ReceivePool) : (setPool p s).choices = s.choices := rfl
@[simp] theorem setPool_pending (p : ReceivePool) : (setPool p s).pending = s.pending := rfl

/-! ### setLastSender -/

@[simp] theorem setLastSender_pins (l : Option Nat) : (setLastSender l s).pins = s.pins := rfl
@[simp] theorem setLastSender_lif (l : Option Nat) : (setLastSender l s).lif = s.lif := rfl
@[simp] theorem setLastSender_frx (l : Option Nat) : (setLastSender l s).frx = s.frx := rfl
@[simp] theorem setLastSender_lastSender (l : Option Nat) : (setLastSender l s).lastSender = l := rfl
@[simp] theorem setLastSender_txq (l : Option Nat) : (setLastSender l s).txq = s.txq := rfl
@[simp] theorem setLastSender_rpu (l : Option Nat) : (setLastSender l s).rpu = s.rpu := rfl
@[simp] theorem setLastSender_ptb (l : Option Nat) : (setLastSender l s).ptb = s.ptb := rfl
@[simp] theorem setLastSender_rxp (l : Option Nat) : (setLastSender l s).rxp = s.rxp := rfl
@[simp] theorem setLastSender_cgm (l : Option Nat) : (setLastSender l s).cgm = s.cgm := rfl
@[simp] theorem setLastSender_stc (l : Option Nat) : (setLastSender l s).stc = s.stc := rfl
@[simp] theorem setLastSender_hpt (l : Option Nat) : (setLastSender l s).hpt = s.hpt := rfl
@[simp] theorem setLastSender_notices (l : Option Nat) : (setLastSender l s).notices = s.notices := rfl
@[simp] theorem setLastSender_counters (l : Option Nat) : (setLastSender l s).counters = s.counters := rfl
@[simp] theorem setLastSender_choices (l : Option Nat) : (setLastSender l s).choices = s.choices := rfl
@[simp] theorem setLastSender_pending (l : Option Nat) : (setLastSender l s).pending = s.pending := rfl

/-! ### setStation -/

@[simp] theorem setStation_pins (st : StationState) (r : Option Nat) : (setStation st r s).pins = s.pins := rfl
@[simp] theorem setStation_lif (st : StationState) (r : Option Nat) : (setStation st r s).lif = s.lif := rfl
@[simp] theorem setStation_frx (st : StationState) (r : Option Nat) : (setStation st r s).frx = s.frx := rfl
@[simp] theorem setStation_lastSender (st : StationState) (r : Option Nat) : (setStation st r s).lastSender = s.lastSender := rfl
@[simp] theorem setStation_txq (st : StationState) (r : Option Nat) : (setStation st r s).txq = s.txq := rfl
@[simp] theorem setStation_rpu (st : StationState) (r : Option Nat) : (setStation st r s).rpu = s.rpu := rfl
@[simp] theorem setStation_ptb (st : StationState) (r : Option Nat) : (setStation st r s).ptb = s.ptb := rfl
@[simp] theorem setStation_rxp (st : StationState) (r : Option Nat) : (setStation st r s).rxp = s.rxp := rfl
@[simp] theorem setStation_cgm (st : StationState) (r : Option Nat) : (setStation st r s).cgm = s.cgm := rfl
@[simp] theorem setStation_stc (st : StationState) (r : Option Nat) : (setStation st r s).stc = { s.stc with station := st, listeningRound := r } := rfl
@[simp] theorem setStation_hpt (st : StationState) (r : Option Nat) : (setStation st r s).hpt = s.hpt := rfl
@[simp] theorem setStation_notices (st : StationState) (r : Option Nat) : (setStation st r s).notices = s.notices := rfl
@[simp] theorem setStation_counters (st : StationState) (r : Option Nat) : (setStation st r s).counters = s.counters := rfl
@[simp] theorem setStation_choices (st : StationState) (r : Option Nat) : (setStation st r s).choices = s.choices := rfl
@[simp] theorem setStation_pending (st : StationState) (r : Option Nat) : (setStation st r s).pending = s.pending := rfl

/-! ### setLine -/

@[simp] theorem setLine_pins (l : LineInterface) : (setLine l s).pins = s.pins := rfl
@[simp] theorem setLine_lif (l : LineInterface) : (setLine l s).lif = l := rfl
@[simp] theorem setLine_frx (l : LineInterface) : (setLine l s).frx = s.frx := rfl
@[simp] theorem setLine_lastSender (l : LineInterface) : (setLine l s).lastSender = s.lastSender := rfl
@[simp] theorem setLine_txq (l : LineInterface) : (setLine l s).txq = s.txq := rfl
@[simp] theorem setLine_rpu (l : LineInterface) : (setLine l s).rpu = s.rpu := rfl
@[simp] theorem setLine_ptb (l : LineInterface) : (setLine l s).ptb = s.ptb := rfl
@[simp] theorem setLine_rxp (l : LineInterface) : (setLine l s).rxp = s.rxp := rfl
@[simp] theorem setLine_cgm (l : LineInterface) : (setLine l s).cgm = s.cgm := rfl
@[simp] theorem setLine_stc (l : LineInterface) : (setLine l s).stc = s.stc := rfl
@[simp] theorem setLine_hpt (l : LineInterface) : (setLine l s).hpt = s.hpt := rfl
@[simp] theorem setLine_notices (l : LineInterface) : (setLine l s).notices = s.notices := rfl
@[simp] theorem setLine_counters (l : LineInterface) : (setLine l s).counters = s.counters := rfl
@[simp] theorem setLine_choices (l : LineInterface) : (setLine l s).choices = s.choices := rfl
@[simp] theorem setLine_pending (l : LineInterface) : (setLine l s).pending = s.pending := rfl

/-! ### setReceiver -/

@[simp] theorem setReceiver_pins (r : FrameReceiver) : (setReceiver r s).pins = s.pins := rfl
@[simp] theorem setReceiver_lif (r : FrameReceiver) : (setReceiver r s).lif = s.lif := rfl
@[simp] theorem setReceiver_frx (r : FrameReceiver) : (setReceiver r s).frx = r := rfl
@[simp] theorem setReceiver_lastSender (r : FrameReceiver) : (setReceiver r s).lastSender = s.lastSender := rfl
@[simp] theorem setReceiver_txq (r : FrameReceiver) : (setReceiver r s).txq = s.txq := rfl
@[simp] theorem setReceiver_rpu (r : FrameReceiver) : (setReceiver r s).rpu = s.rpu := rfl
@[simp] theorem setReceiver_ptb (r : FrameReceiver) : (setReceiver r s).ptb = s.ptb := rfl
@[simp] theorem setReceiver_rxp (r : FrameReceiver) : (setReceiver r s).rxp = s.rxp := rfl
@[simp] theorem setReceiver_cgm (r : FrameReceiver) : (setReceiver r s).cgm = s.cgm := rfl
@[simp] theorem setReceiver_stc (r : FrameReceiver) : (setReceiver r s).stc = s.stc := rfl
@[simp] theorem setReceiver_hpt (r : FrameReceiver) : (setReceiver r s).hpt = s.hpt := rfl
@[simp] theorem setReceiver_notices (r : FrameReceiver) : (setReceiver r s).notices = s.notices := rfl
@[simp] theorem setReceiver_counters (r : FrameReceiver) : (setReceiver r s).counters = s.counters := rfl
@[simp] theorem setReceiver_choices (r : FrameReceiver) : (setReceiver r s).choices = s.choices := rfl
@[simp] theorem setReceiver_pending (r : FrameReceiver) : (setReceiver r s).pending = s.pending := rfl

/-! ### setPort -/

@[simp] theorem setPort_pins (p : HostPort) : (setPort p s).pins = s.pins := rfl
@[simp] theorem setPort_lif (p : HostPort) : (setPort p s).lif = s.lif := rfl
@[simp] theorem setPort_frx (p : HostPort) : (setPort p s).frx = s.frx := rfl
@[simp] theorem setPort_lastSender (p : HostPort) : (setPort p s).lastSender = s.lastSender := rfl
@[simp] theorem setPort_txq (p : HostPort) : (setPort p s).txq = s.txq := rfl
@[simp] theorem setPort_rpu (p : HostPort) : (setPort p s).rpu = s.rpu := rfl
@[simp] theorem setPort_ptb (p : HostPort) : (setPort p s).ptb = s.ptb := rfl
@[simp] theorem setPort_rxp (p : HostPort) : (setPort p s).rxp = s.rxp := rfl
@[simp] theorem setPort_cgm (p : HostPort) : (setPort p s).cgm = s.cgm := rfl
@[simp] theorem setPort_stc (p : HostPort) : (setPort p s).stc = s.stc := rfl
@[simp] theorem setPort_hpt (p : HostPort) : (setPort p s).hpt = p := rfl
@[simp] theorem setPort_notices (p : HostPort) : (setPort p s).notices = s.notices := rfl
@[simp] theorem setPort_counters (p : HostPort) : (setPort p s).counters = s.counters := rfl
@[simp] theorem setPort_choices (p : HostPort) : (setPort p s).choices = s.choices := rfl
@[simp] theorem setPort_pending (p : HostPort) : (setPort p s).pending = s.pending := rfl

/-! ### setHdo -/

@[simp] theorem setHdo_pins (l : PinLevel) : (setHdo l s).pins = { s.pins with hdo := l } := rfl
@[simp] theorem setHdo_lif (l : PinLevel) : (setHdo l s).lif = s.lif := rfl
@[simp] theorem setHdo_frx (l : PinLevel) : (setHdo l s).frx = s.frx := rfl
@[simp] theorem setHdo_lastSender (l : PinLevel) : (setHdo l s).lastSender = s.lastSender := rfl
@[simp] theorem setHdo_txq (l : PinLevel) : (setHdo l s).txq = s.txq := rfl
@[simp] theorem setHdo_rpu (l : PinLevel) : (setHdo l s).rpu = s.rpu := rfl
@[simp] theorem setHdo_ptb (l : PinLevel) : (setHdo l s).ptb = s.ptb := rfl
@[simp] theorem setHdo_rxp (l : PinLevel) : (setHdo l s).rxp = s.rxp := rfl
@[simp] theorem setHdo_cgm (l : PinLevel) : (setHdo l s).cgm = s.cgm := rfl
@[simp] theorem setHdo_stc (l : PinLevel) : (setHdo l s).stc = s.stc := rfl
@[simp] theorem setHdo_hpt (l : PinLevel) : (setHdo l s).hpt = s.hpt := rfl
@[simp] theorem setHdo_notices (l : PinLevel) : (setHdo l s).notices = s.notices := rfl
@[simp] theorem setHdo_counters (l : PinLevel) : (setHdo l s).counters = s.counters := rfl
@[simp] theorem setHdo_choices (l : PinLevel) : (setHdo l s).choices = s.choices := rfl
@[simp] theorem setHdo_pending (l : PinLevel) : (setHdo l s).pending = s.pending := rfl

/-! ### setNreset -/

@[simp] theorem setNreset_pins (b : Bool) : (setNreset b s).pins = { s.pins with nresetLow := b } := rfl
@[simp] theorem setNreset_lif (b : Bool) : (setNreset b s).lif = s.lif := rfl
@[simp] theorem setNreset_frx (b : Bool) : (setNreset b s).frx = s.frx := rfl
@[simp] theorem setNreset_lastSender (b : Bool) : (setNreset b s).lastSender = s.lastSender := rfl
@[simp] theorem setNreset_txq (b : Bool) : (setNreset b s).txq = s.txq := rfl
@[simp] theorem setNreset_rpu (b : Bool) : (setNreset b s).rpu = s.rpu := rfl
@[simp] theorem setNreset_ptb (b : Bool) : (setNreset b s).ptb = s.ptb := rfl
@[simp] theorem setNreset_rxp (b : Bool) : (setNreset b s).rxp = s.rxp := rfl
@[simp] theorem setNreset_cgm (b : Bool) : (setNreset b s).cgm = s.cgm := rfl
@[simp] theorem setNreset_stc (b : Bool) : (setNreset b s).stc = s.stc := rfl
@[simp] theorem setNreset_hpt (b : Bool) : (setNreset b s).hpt = s.hpt := rfl
@[simp] theorem setNreset_notices (b : Bool) : (setNreset b s).notices = s.notices := rfl
@[simp] theorem setNreset_counters (b : Bool) : (setNreset b s).counters = s.counters := rfl
@[simp] theorem setNreset_choices (b : Bool) : (setNreset b s).choices = s.choices := rfl
@[simp] theorem setNreset_pending (b : Bool) : (setNreset b s).pending = s.pending := rfl

/-! ### setVdd -/

@[simp] theorem setVdd_pins (b : Bool) : (setVdd b s).pins = { s.pins with vddOk := b } := rfl
@[simp] theorem setVdd_lif (b : Bool) : (setVdd b s).lif = s.lif := rfl
@[simp] theorem setVdd_frx (b : Bool) : (setVdd b s).frx = s.frx := rfl
@[simp] theorem setVdd_lastSender (b : Bool) : (setVdd b s).lastSender = s.lastSender := rfl
@[simp] theorem setVdd_txq (b : Bool) : (setVdd b s).txq = s.txq := rfl
@[simp] theorem setVdd_rpu (b : Bool) : (setVdd b s).rpu = s.rpu := rfl
@[simp] theorem setVdd_ptb (b : Bool) : (setVdd b s).ptb = s.ptb := rfl
@[simp] theorem setVdd_rxp (b : Bool) : (setVdd b s).rxp = s.rxp := rfl
@[simp] theorem setVdd_cgm (b : Bool) : (setVdd b s).cgm = s.cgm := rfl
@[simp] theorem setVdd_stc (b : Bool) : (setVdd b s).stc = s.stc := rfl
@[simp] theorem setVdd_hpt (b : Bool) : (setVdd b s).hpt = s.hpt := rfl
@[simp] theorem setVdd_notices (b : Bool) : (setVdd b s).notices = s.notices := rfl
@[simp] theorem setVdd_counters (b : Bool) : (setVdd b s).counters = s.counters := rfl
@[simp] theorem setVdd_choices (b : Bool) : (setVdd b s).choices = s.choices := rfl
@[simp] theorem setVdd_pending (b : Bool) : (setVdd b s).pending = s.pending := rfl

/-! ### setVio -/

@[simp] theorem setVio_pins (b : Bool) : (setVio b s).pins = { s.pins with vioOk := b } := rfl
@[simp] theorem setVio_lif (b : Bool) : (setVio b s).lif = s.lif := rfl
@[simp] theorem setVio_frx (b : Bool) : (setVio b s).frx = s.frx := rfl
@[simp] theorem setVio_lastSender (b : Bool) : (setVio b s).lastSender = s.lastSender := rfl
@[simp] theorem setVio_txq (b : Bool) : (setVio b s).txq = s.txq := rfl
@[simp] theorem setVio_rpu (b : Bool) : (setVio b s).rpu = s.rpu := rfl
@[simp] theorem setVio_ptb (b : Bool) : (setVio b s).ptb = s.ptb := rfl
@[simp] theorem setVio_rxp (b : Bool) : (setVio b s).rxp = s.rxp := rfl
@[simp] theorem setVio_cgm (b : Bool) : (setVio b s).cgm = s.cgm := rfl
@[simp] theorem setVio_stc (b : Bool) : (setVio b s).stc = s.stc := rfl
@[simp] theorem setVio_hpt (b : Bool) : (setVio b s).hpt = s.hpt := rfl
@[simp] theorem setVio_notices (b : Bool) : (setVio b s).notices = s.notices := rfl
@[simp] theorem setVio_counters (b : Bool) : (setVio b s).counters = s.counters := rfl
@[simp] theorem setVio_choices (b : Bool) : (setVio b s).choices = s.choices := rfl
@[simp] theorem setVio_pending (b : Bool) : (setVio b s).pending = s.pending := rfl

/-! ### settleAttn -/

@[simp] theorem settleAttn_pins : (settleAttn s).pins = s.pins := rfl
@[simp] theorem settleAttn_lif : (settleAttn s).lif = s.lif := rfl
@[simp] theorem settleAttn_frx : (settleAttn s).frx = s.frx := rfl
@[simp] theorem settleAttn_lastSender : (settleAttn s).lastSender = s.lastSender := rfl
@[simp] theorem settleAttn_txq : (settleAttn s).txq = s.txq := rfl
@[simp] theorem settleAttn_rpu : (settleAttn s).rpu = s.rpu := rfl
@[simp] theorem settleAttn_ptb : (settleAttn s).ptb = s.ptb := rfl
@[simp] theorem settleAttn_rxp : (settleAttn s).rxp = s.rxp := rfl
@[simp] theorem settleAttn_cgm : (settleAttn s).cgm = s.cgm := rfl
@[simp] theorem settleAttn_stc : (settleAttn s).stc = s.stc := rfl
@[simp] theorem settleAttn_hpt : (settleAttn s).hpt = { s.hpt with attn := attnLevel s } := rfl
@[simp] theorem settleAttn_notices : (settleAttn s).notices = s.notices := rfl
@[simp] theorem settleAttn_counters : (settleAttn s).counters = s.counters := rfl
@[simp] theorem settleAttn_choices : (settleAttn s).choices = s.choices := rfl
@[simp] theorem settleAttn_pending : (settleAttn s).pending = s.pending := rfl

end Sys2Proof.Machine
end

