-- ==== Sys2Proof/Laws/Frames.lean ====
section
/-! SUPPORT. Frames: for each operation, the blocks of State that it leaves as they were. simp reads each equation by itself. -/

namespace Sys2Proof.Machine

variable (s : State)

/-! ### Ops -/

@[simp] theorem offerNotice_frame (n : Notice) :
      (offerNotice n s).pins = s.pins ∧ (offerNotice n s).lif = s.lif ∧ (offerNotice n s).frx = s.frx ∧
      (offerNotice n s).lastSender = s.lastSender ∧ (offerNotice n s).txq = s.txq ∧ (offerNotice n s).rpu = s.rpu ∧
      (offerNotice n s).ptb = s.ptb ∧ (offerNotice n s).rxp = s.rxp ∧ (offerNotice n s).cgm = s.cgm ∧
      (offerNotice n s).stc = s.stc ∧ (offerNotice n s).hpt = s.hpt ∧ (offerNotice n s).choices = s.choices ∧
      (offerNotice n s).pending = s.pending := by
  unfold offerNotice
  dsimp only
  (repeat' split) <;> simp

@[simp] theorem takeBitTime_frame :
      (takeBitTime s).pins = s.pins ∧ (takeBitTime s).frx = s.frx ∧ (takeBitTime s).lastSender = s.lastSender ∧
      (takeBitTime s).txq = s.txq ∧ (takeBitTime s).rpu = s.rpu ∧ (takeBitTime s).ptb = s.ptb ∧
      (takeBitTime s).rxp = s.rxp ∧ (takeBitTime s).cgm = s.cgm ∧ (takeBitTime s).stc = s.stc ∧
      (takeBitTime s).hpt = s.hpt ∧ (takeBitTime s).notices = s.notices ∧ (takeBitTime s).counters = s.counters ∧
      (takeBitTime s).choices = s.choices ∧ (takeBitTime s).pending = s.pending := by
  unfold takeBitTime
  dsimp only
  (repeat' split) <;> simp

@[simp] theorem setIdle_frame (k : Nat) :
      (setIdle k s).pins = s.pins ∧ (setIdle k s).frx = s.frx ∧ (setIdle k s).lastSender = s.lastSender ∧
      (setIdle k s).txq = s.txq ∧ (setIdle k s).rpu = s.rpu ∧ (setIdle k s).ptb = s.ptb ∧
      (setIdle k s).rxp = s.rxp ∧ (setIdle k s).cgm = s.cgm ∧ (setIdle k s).stc = s.stc ∧
      (setIdle k s).hpt = s.hpt ∧ (setIdle k s).notices = s.notices ∧ (setIdle k s).counters = s.counters ∧
      (setIdle k s).choices = s.choices ∧ (setIdle k s).pending = s.pending := by
  unfold setIdle
  dsimp only
  (repeat' split) <;> simp

/-! ### Transmit Queue -/

@[simp] theorem completeEntry_frame (h : Fin 16) (e : Entry) (o : EntryOutcome) :
      (completeEntry h e o s).pins = s.pins ∧ (completeEntry h e o s).lif = s.lif ∧ (completeEntry h e o s).frx = s.frx ∧
      (completeEntry h e o s).lastSender = s.lastSender ∧ (completeEntry h e o s).rpu = s.rpu ∧ (completeEntry h e o s).ptb = s.ptb ∧
      (completeEntry h e o s).rxp = s.rxp ∧ (completeEntry h e o s).cgm = s.cgm ∧ (completeEntry h e o s).stc = s.stc ∧
      (completeEntry h e o s).hpt = s.hpt ∧ (completeEntry h e o s).choices = s.choices ∧ (completeEntry h e o s).pending = s.pending := by
  simp [completeEntry]

@[simp] theorem returnEntry_frame (h : Fin 16) (e : Entry) :
      (returnEntry h e s).pins = s.pins ∧ (returnEntry h e s).lif = s.lif ∧ (returnEntry h e s).frx = s.frx ∧
      (returnEntry h e s).lastSender = s.lastSender ∧ (returnEntry h e s).rpu = s.rpu ∧ (returnEntry h e s).ptb = s.ptb ∧
      (returnEntry h e s).rxp = s.rxp ∧ (returnEntry h e s).cgm = s.cgm ∧ (returnEntry h e s).stc = s.stc ∧
      (returnEntry h e s).hpt = s.hpt ∧ (returnEntry h e s).notices = s.notices ∧ (returnEntry h e s).counters = s.counters ∧
      (returnEntry h e s).choices = s.choices ∧ (returnEntry h e s).pending = s.pending := by
  unfold returnEntry
  (repeat' split) <;> simp

@[simp] theorem failAttempt_frame (h : Fin 16) (e : Entry) (a : Option EntryOutcome) :
      (failAttempt h e a s).pins = s.pins ∧ (failAttempt h e a s).lif = s.lif ∧ (failAttempt h e a s).frx = s.frx ∧
      (failAttempt h e a s).lastSender = s.lastSender ∧ (failAttempt h e a s).rpu = s.rpu ∧ (failAttempt h e a s).ptb = s.ptb ∧
      (failAttempt h e a s).rxp = s.rxp ∧ (failAttempt h e a s).cgm = s.cgm ∧ (failAttempt h e a s).stc = s.stc ∧
      (failAttempt h e a s).hpt = s.hpt ∧ (failAttempt h e a s).choices = s.choices ∧ (failAttempt h e a s).pending = s.pending := by
  unfold failAttempt
  (repeat' split) <;> simp

@[simp] theorem entryClean_frame (h : Fin 16) (e : Entry) :
      (entryClean h e s).pins = s.pins ∧ (entryClean h e s).lif = s.lif ∧ (entryClean h e s).frx = s.frx ∧
      (entryClean h e s).lastSender = s.lastSender ∧ (entryClean h e s).ptb = s.ptb ∧ (entryClean h e s).rxp = s.rxp ∧
      (entryClean h e s).cgm = s.cgm ∧ (entryClean h e s).stc = s.stc ∧ (entryClean h e s).hpt = s.hpt ∧
      (entryClean h e s).choices = s.choices ∧ (entryClean h e s).pending = s.pending := by
  unfold entryClean
  dsimp only
  (repeat' split) <;> simp

@[simp] theorem entryOutcome_frame (h : Fin 16) (e : Entry) (o : OwnOutcome) :
      (entryOutcome h e o s).pins = s.pins ∧ (entryOutcome h e o s).lif = s.lif ∧ (entryOutcome h e o s).frx = s.frx ∧
      (entryOutcome h e o s).lastSender = s.lastSender ∧ (entryOutcome h e o s).ptb = s.ptb ∧ (entryOutcome h e o s).rxp = s.rxp ∧
      (entryOutcome h e o s).cgm = s.cgm ∧ (entryOutcome h e o s).stc = s.stc ∧ (entryOutcome h e o s).hpt = s.hpt ∧
      (entryOutcome h e o s).choices = s.choices ∧ (entryOutcome h e o s).pending = s.pending := by
  unfold entryOutcome
  dsimp only
  (repeat' split) <;> simp

@[simp] theorem currentOutcome_frame (o : OwnOutcome) :
      (currentOutcome o s).pins = s.pins ∧ (currentOutcome o s).lif = s.lif ∧ (currentOutcome o s).frx = s.frx ∧
      (currentOutcome o s).lastSender = s.lastSender ∧ (currentOutcome o s).ptb = s.ptb ∧ (currentOutcome o s).rxp = s.rxp ∧
      (currentOutcome o s).cgm = s.cgm ∧ (currentOutcome o s).stc = s.stc ∧ (currentOutcome o s).hpt = s.hpt ∧
      (currentOutcome o s).choices = s.choices ∧ (currentOutcome o s).pending = s.pending := by
  unfold currentOutcome
  (repeat' split) <;> simp

@[simp] theorem replyOutcome_frame (h : Fin 16) (o : ReplyOutcome) :
      (replyOutcome h o s).pins = s.pins ∧ (replyOutcome h o s).lif = s.lif ∧ (replyOutcome h o s).frx = s.frx ∧
      (replyOutcome h o s).lastSender = s.lastSender ∧ (replyOutcome h o s).rpu = s.rpu ∧ (replyOutcome h o s).ptb = s.ptb ∧
      (replyOutcome h o s).rxp = s.rxp ∧ (replyOutcome h o s).cgm = s.cgm ∧ (replyOutcome h o s).stc = s.stc ∧
      (replyOutcome h o s).hpt = s.hpt ∧ (replyOutcome h o s).choices = s.choices ∧ (replyOutcome h o s).pending = s.pending := by
  unfold replyOutcome
  dsimp only
  (repeat' split) <;> simp

@[simp] theorem takeEntry_frame (h : Fin 16) (d : Byte) (p : List Byte) :
      (takeEntry h d p s).pins = s.pins ∧ (takeEntry h d p s).lif = s.lif ∧ (takeEntry h d p s).frx = s.frx ∧
      (takeEntry h d p s).lastSender = s.lastSender ∧ (takeEntry h d p s).rpu = s.rpu ∧ (takeEntry h d p s).ptb = s.ptb ∧
      (takeEntry h d p s).rxp = s.rxp ∧ (takeEntry h d p s).cgm = s.cgm ∧ (takeEntry h d p s).stc = s.stc ∧
      (takeEntry h d p s).hpt = s.hpt ∧ (takeEntry h d p s).notices = s.notices ∧ (takeEntry h d p s).counters = s.counters ∧
      (takeEntry h d p s).choices = s.choices ∧ (takeEntry h d p s).pending = s.pending := by
  simp [takeEntry]

@[simp] theorem withdrawEntry_frame (h : Fin 16) :
      (withdrawEntry s h).pins = s.pins ∧ (withdrawEntry s h).lif = s.lif ∧ (withdrawEntry s h).frx = s.frx ∧
      (withdrawEntry s h).lastSender = s.lastSender ∧ (withdrawEntry s h).rpu = s.rpu ∧ (withdrawEntry s h).ptb = s.ptb ∧
      (withdrawEntry s h).rxp = s.rxp ∧ (withdrawEntry s h).cgm = s.cgm ∧ (withdrawEntry s h).stc = s.stc ∧
      (withdrawEntry s h).hpt = s.hpt ∧ (withdrawEntry s h).choices = s.choices ∧ (withdrawEntry s h).pending = s.pending := by
  unfold withdrawEntry
  (repeat' split) <;> simp

@[simp] theorem withdrawAll_frame :
      (withdrawAll s).pins = s.pins ∧ (withdrawAll s).lif = s.lif ∧ (withdrawAll s).frx = s.frx ∧
      (withdrawAll s).lastSender = s.lastSender ∧ (withdrawAll s).rpu = s.rpu ∧ (withdrawAll s).ptb = s.ptb ∧
      (withdrawAll s).rxp = s.rxp ∧ (withdrawAll s).cgm = s.cgm ∧ (withdrawAll s).stc = s.stc ∧
      (withdrawAll s).hpt = s.hpt ∧ (withdrawAll s).choices = s.choices ∧ (withdrawAll s).pending = s.pending := by
  have main : ∀ (hs : List (Fin 16)) (s : State), (hs.foldl withdrawEntry s).pins = s.pins ∧ (hs.foldl withdrawEntry s).lif = s.lif ∧ (hs.foldl withdrawEntry s).frx = s.frx ∧
      (hs.foldl withdrawEntry s).lastSender = s.lastSender ∧ (hs.foldl withdrawEntry s).rpu = s.rpu ∧ (hs.foldl withdrawEntry s).ptb = s.ptb ∧
      (hs.foldl withdrawEntry s).rxp = s.rxp ∧ (hs.foldl withdrawEntry s).cgm = s.cgm ∧ (hs.foldl withdrawEntry s).stc = s.stc ∧
      (hs.foldl withdrawEntry s).hpt = s.hpt ∧ (hs.foldl withdrawEntry s).choices = s.choices ∧ (hs.foldl withdrawEntry s).pending = s.pending := by
    intro hs
    induction hs with
    | nil => intro s; simp
    | cons h hs ih => intro s; simp [ih]
  exact main _ s

@[simp] theorem advanceSequence_frame (e : Entry) :
      (advanceSequence e s).pins = s.pins ∧ (advanceSequence e s).lif = s.lif ∧ (advanceSequence e s).frx = s.frx ∧
      (advanceSequence e s).lastSender = s.lastSender ∧ (advanceSequence e s).rpu = s.rpu ∧ (advanceSequence e s).rxp = s.rxp ∧
      (advanceSequence e s).cgm = s.cgm ∧ (advanceSequence e s).stc = s.stc ∧ (advanceSequence e s).hpt = s.hpt ∧
      (advanceSequence e s).notices = s.notices ∧ (advanceSequence e s).counters = s.counters ∧ (advanceSequence e s).choices = s.choices ∧
      (advanceSequence e s).pending = s.pending := by
  unfold advanceSequence
  dsimp only
  (repeat' split) <;> simp

@[simp] theorem chosenTaken_frame (c : CurrentFrame) :
      (chosenTaken c s).pins = s.pins ∧ (chosenTaken c s).lif = s.lif ∧ (chosenTaken c s).frx = s.frx ∧
      (chosenTaken c s).lastSender = s.lastSender ∧ (chosenTaken c s).rpu = s.rpu ∧ (chosenTaken c s).rxp = s.rxp ∧
      (chosenTaken c s).cgm = s.cgm ∧ (chosenTaken c s).stc = s.stc ∧ (chosenTaken c s).hpt = s.hpt ∧
      (chosenTaken c s).notices = s.notices ∧ (chosenTaken c s).counters = s.counters ∧ (chosenTaken c s).choices = s.choices ∧
      (chosenTaken c s).pending = s.pending := by
  unfold chosenTaken
  dsimp only
  (repeat' split) <;> simp

/-! ### Congestion Monitor -/

@[simp] theorem judgeFill_frame :
      (judgeFill s).pins = s.pins ∧ (judgeFill s).lif = s.lif ∧ (judgeFill s).frx = s.frx ∧
      (judgeFill s).lastSender = s.lastSender ∧ (judgeFill s).txq = s.txq ∧ (judgeFill s).rpu = s.rpu ∧
      (judgeFill s).ptb = s.ptb ∧ (judgeFill s).rxp = s.rxp ∧ (judgeFill s).stc = s.stc ∧
      (judgeFill s).hpt = s.hpt ∧ (judgeFill s).choices = s.choices ∧ (judgeFill s).pending = s.pending := by
  unfold judgeFill
  (repeat' split) <;> simp

@[simp] theorem monitorOutcome_frame (k : FrameKind) (o : OwnOutcome) :
      (monitorOutcome k o s).pins = s.pins ∧ (monitorOutcome k o s).lif = s.lif ∧ (monitorOutcome k o s).frx = s.frx ∧
      (monitorOutcome k o s).lastSender = s.lastSender ∧ (monitorOutcome k o s).txq = s.txq ∧ (monitorOutcome k o s).rpu = s.rpu ∧
      (monitorOutcome k o s).ptb = s.ptb ∧ (monitorOutcome k o s).rxp = s.rxp ∧ (monitorOutcome k o s).stc = s.stc ∧
      (monitorOutcome k o s).hpt = s.hpt ∧ (monitorOutcome k o s).notices = s.notices ∧ (monitorOutcome k o s).counters = s.counters ∧
      (monitorOutcome k o s).choices = s.choices ∧ (monitorOutcome k o s).pending = s.pending := by
  unfold monitorOutcome
  (repeat' split) <;> simp

@[simp] theorem refreshExpires_frame :
      (refreshExpires s).pins = s.pins ∧ (refreshExpires s).lif = s.lif ∧ (refreshExpires s).frx = s.frx ∧
      (refreshExpires s).lastSender = s.lastSender ∧ (refreshExpires s).txq = s.txq ∧ (refreshExpires s).rpu = s.rpu ∧
      (refreshExpires s).ptb = s.ptb ∧ (refreshExpires s).rxp = s.rxp ∧ (refreshExpires s).stc = s.stc ∧
      (refreshExpires s).hpt = s.hpt ∧ (refreshExpires s).notices = s.notices ∧ (refreshExpires s).counters = s.counters ∧
      (refreshExpires s).choices = s.choices ∧ (refreshExpires s).pending = s.pending := by
  unfold refreshExpires
  dsimp only
  (repeat' split) <;> simp

@[simp] theorem monitorEntersActive_frame :
      (monitorEntersActive s).pins = s.pins ∧ (monitorEntersActive s).lif = s.lif ∧ (monitorEntersActive s).frx = s.frx ∧
      (monitorEntersActive s).lastSender = s.lastSender ∧ (monitorEntersActive s).txq = s.txq ∧ (monitorEntersActive s).rpu = s.rpu ∧
      (monitorEntersActive s).ptb = s.ptb ∧ (monitorEntersActive s).rxp = s.rxp ∧ (monitorEntersActive s).stc = s.stc ∧
      (monitorEntersActive s).hpt = s.hpt ∧ (monitorEntersActive s).notices = s.notices ∧ (monitorEntersActive s).counters = s.counters ∧
      (monitorEntersActive s).choices = s.choices ∧ (monitorEntersActive s).pending = s.pending := by
  unfold monitorEntersActive
  dsimp only
  (repeat' split) <;> simp

@[simp] theorem monitorWithdraw_frame :
      (monitorWithdraw s).pins = s.pins ∧ (monitorWithdraw s).lif = s.lif ∧ (monitorWithdraw s).frx = s.frx ∧
      (monitorWithdraw s).lastSender = s.lastSender ∧ (monitorWithdraw s).txq = s.txq ∧ (monitorWithdraw s).rpu = s.rpu ∧
      (monitorWithdraw s).ptb = s.ptb ∧ (monitorWithdraw s).rxp = s.rxp ∧ (monitorWithdraw s).stc = s.stc ∧
      (monitorWithdraw s).hpt = s.hpt ∧ (monitorWithdraw s).notices = s.notices ∧ (monitorWithdraw s).counters = s.counters ∧
      (monitorWithdraw s).choices = s.choices ∧ (monitorWithdraw s).pending = s.pending := by
  simp [monitorWithdraw]

@[simp] theorem monitorJoins_frame :
      (monitorJoins s).pins = s.pins ∧ (monitorJoins s).lif = s.lif ∧ (monitorJoins s).frx = s.frx ∧
      (monitorJoins s).lastSender = s.lastSender ∧ (monitorJoins s).txq = s.txq ∧ (monitorJoins s).rpu = s.rpu ∧
      (monitorJoins s).ptb = s.ptb ∧ (monitorJoins s).rxp = s.rxp ∧ (monitorJoins s).stc = s.stc ∧
      (monitorJoins s).hpt = s.hpt ∧ (monitorJoins s).choices = s.choices ∧ (monitorJoins s).pending = s.pending := by
  simp [monitorJoins]

/-! ### Peer Table -/

@[simp] theorem refreshPresence_frame (p : Fin 32) :
      (refreshPresence p s).pins = s.pins ∧ (refreshPresence p s).lif = s.lif ∧ (refreshPresence p s).frx = s.frx ∧
      (refreshPresence p s).lastSender = s.lastSender ∧ (refreshPresence p s).txq = s.txq ∧ (refreshPresence p s).rpu = s.rpu ∧
      (refreshPresence p s).rxp = s.rxp ∧ (refreshPresence p s).cgm = s.cgm ∧ (refreshPresence p s).stc = s.stc ∧
      (refreshPresence p s).hpt = s.hpt ∧ (refreshPresence p s).choices = s.choices ∧ (refreshPresence p s).pending = s.pending := by
  unfold refreshPresence
  dsimp only
  (repeat' split) <;> simp

@[simp] theorem pausePeer_frame (p : Fin 32) (c : PauseCause) :
      (pausePeer p c s).pins = s.pins ∧ (pausePeer p c s).lif = s.lif ∧ (pausePeer p c s).frx = s.frx ∧
      (pausePeer p c s).lastSender = s.lastSender ∧ (pausePeer p c s).rpu = s.rpu ∧ (pausePeer p c s).rxp = s.rxp ∧
      (pausePeer p c s).cgm = s.cgm ∧ (pausePeer p c s).stc = s.stc ∧ (pausePeer p c s).hpt = s.hpt ∧
      (pausePeer p c s).choices = s.choices ∧ (pausePeer p c s).pending = s.pending := by
  unfold pausePeer
  dsimp only
  (repeat' split) <;> simp

@[simp] theorem resumePeer_frame (p : Fin 32) (c : ResumeCause) :
      (resumePeer p c s).pins = s.pins ∧ (resumePeer p c s).lif = s.lif ∧ (resumePeer p c s).frx = s.frx ∧
      (resumePeer p c s).lastSender = s.lastSender ∧ (resumePeer p c s).rpu = s.rpu ∧ (resumePeer p c s).rxp = s.rxp ∧
      (resumePeer p c s).cgm = s.cgm ∧ (resumePeer p c s).stc = s.stc ∧ (resumePeer p c s).hpt = s.hpt ∧
      (resumePeer p c s).choices = s.choices ∧ (resumePeer p c s).pending = s.pending := by
  unfold resumePeer
  dsimp only
  (repeat' split) <;> simp

@[simp] theorem helloPeer_frame (p : Fin 32) :
      (helloPeer p s).pins = s.pins ∧ (helloPeer p s).lif = s.lif ∧ (helloPeer p s).frx = s.frx ∧
      (helloPeer p s).lastSender = s.lastSender ∧ (helloPeer p s).rpu = s.rpu ∧ (helloPeer p s).rxp = s.rxp ∧
      (helloPeer p s).cgm = s.cgm ∧ (helloPeer p s).stc = s.stc ∧ (helloPeer p s).hpt = s.hpt ∧
      (helloPeer p s).choices = s.choices ∧ (helloPeer p s).pending = s.pending := by
  simp [helloPeer]

@[simp] theorem losePeer_frame (p : Fin 32) :
      (losePeer p s).pins = s.pins ∧ (losePeer p s).lif = s.lif ∧ (losePeer p s).frx = s.frx ∧
      (losePeer p s).lastSender = s.lastSender ∧ (losePeer p s).rpu = s.rpu ∧ (losePeer p s).rxp = s.rxp ∧
      (losePeer p s).cgm = s.cgm ∧ (losePeer p s).stc = s.stc ∧ (losePeer p s).hpt = s.hpt ∧
      (losePeer p s).choices = s.choices ∧ (losePeer p s).pending = s.pending := by
  unfold losePeer
  dsimp only
  (repeat' split) <;> simp

@[simp] theorem kindClaims_frame (p : Fin 32) (f : GoodFrame) :
      (kindClaims p f s).pins = s.pins ∧ (kindClaims p f s).lif = s.lif ∧ (kindClaims p f s).frx = s.frx ∧
      (kindClaims p f s).lastSender = s.lastSender ∧ (kindClaims p f s).rpu = s.rpu ∧ (kindClaims p f s).rxp = s.rxp ∧
      (kindClaims p f s).cgm = s.cgm ∧ (kindClaims p f s).stc = s.stc ∧ (kindClaims p f s).hpt = s.hpt ∧
      (kindClaims p f s).choices = s.choices ∧ (kindClaims p f s).pending = s.pending := by
  unfold kindClaims
  (repeat' split) <;> simp

@[simp] theorem peerFrame_frame (f : GoodFrame) :
      (peerFrame f s).pins = s.pins ∧ (peerFrame f s).lif = s.lif ∧ (peerFrame f s).frx = s.frx ∧
      (peerFrame f s).lastSender = s.lastSender ∧ (peerFrame f s).rpu = s.rpu ∧ (peerFrame f s).rxp = s.rxp ∧
      (peerFrame f s).cgm = s.cgm ∧ (peerFrame f s).stc = s.stc ∧ (peerFrame f s).hpt = s.hpt ∧
      (peerFrame f s).choices = s.choices ∧ (peerFrame f s).pending = s.pending := by
  unfold peerFrame
  (repeat' split) <;> simp

@[simp] theorem peerFull_frame (d : Byte) :
      (peerFull d s).pins = s.pins ∧ (peerFull d s).lif = s.lif ∧ (peerFull d s).frx = s.frx ∧
      (peerFull d s).lastSender = s.lastSender ∧ (peerFull d s).rpu = s.rpu ∧ (peerFull d s).rxp = s.rxp ∧
      (peerFull d s).cgm = s.cgm ∧ (peerFull d s).stc = s.stc ∧ (peerFull d s).hpt = s.hpt ∧
      (peerFull d s).choices = s.choices ∧ (peerFull d s).pending = s.pending := by
  unfold peerFull
  (repeat' split) <;> simp

@[simp] theorem peerOutcome_frame (o : OwnOutcome) :
      (peerOutcome o s).pins = s.pins ∧ (peerOutcome o s).lif = s.lif ∧ (peerOutcome o s).frx = s.frx ∧
      (peerOutcome o s).lastSender = s.lastSender ∧ (peerOutcome o s).txq = s.txq ∧ (peerOutcome o s).rpu = s.rpu ∧
      (peerOutcome o s).rxp = s.rxp ∧ (peerOutcome o s).cgm = s.cgm ∧ (peerOutcome o s).stc = s.stc ∧
      (peerOutcome o s).hpt = s.hpt ∧ (peerOutcome o s).notices = s.notices ∧ (peerOutcome o s).counters = s.counters ∧
      (peerOutcome o s).choices = s.choices ∧ (peerOutcome o s).pending = s.pending := by
  unfold peerOutcome
  dsimp only
  (repeat' split) <;> simp

@[simp] theorem beaconExpires_frame :
      (beaconExpires s).pins = s.pins ∧ (beaconExpires s).lif = s.lif ∧ (beaconExpires s).frx = s.frx ∧
      (beaconExpires s).lastSender = s.lastSender ∧ (beaconExpires s).rpu = s.rpu ∧ (beaconExpires s).rxp = s.rxp ∧
      (beaconExpires s).cgm = s.cgm ∧ (beaconExpires s).stc = s.stc ∧ (beaconExpires s).hpt = s.hpt ∧
      (beaconExpires s).notices = s.notices ∧ (beaconExpires s).counters = s.counters ∧ (beaconExpires s).choices = s.choices ∧
      (beaconExpires s).pending = s.pending := by
  unfold beaconExpires
  dsimp only
  (repeat' split) <;> simp

@[simp] theorem tickBeacon_frame :
      (tickBeacon s).pins = s.pins ∧ (tickBeacon s).lif = s.lif ∧ (tickBeacon s).frx = s.frx ∧
      (tickBeacon s).lastSender = s.lastSender ∧ (tickBeacon s).rpu = s.rpu ∧ (tickBeacon s).rxp = s.rxp ∧
      (tickBeacon s).cgm = s.cgm ∧ (tickBeacon s).stc = s.stc ∧ (tickBeacon s).hpt = s.hpt ∧
      (tickBeacon s).notices = s.notices ∧ (tickBeacon s).counters = s.counters ∧ (tickBeacon s).choices = s.choices ∧
      (tickBeacon s).pending = s.pending := by
  unfold tickBeacon
  dsimp only
  (repeat' split) <;> simp

@[simp] theorem expirePeer_frame (b : Vector Peer 32) (p : Fin 32) :
      (expirePeer b s p).pins = s.pins ∧ (expirePeer b s p).lif = s.lif ∧ (expirePeer b s p).frx = s.frx ∧
      (expirePeer b s p).lastSender = s.lastSender ∧ (expirePeer b s p).rpu = s.rpu ∧ (expirePeer b s p).rxp = s.rxp ∧
      (expirePeer b s p).cgm = s.cgm ∧ (expirePeer b s p).stc = s.stc ∧ (expirePeer b s p).hpt = s.hpt ∧
      (expirePeer b s p).choices = s.choices ∧ (expirePeer b s p).pending = s.pending := by
  unfold expirePeer
  (repeat' split) <;> simp

@[simp] theorem tickRecords_frame :
      (tickRecords s).pins = s.pins ∧ (tickRecords s).lif = s.lif ∧ (tickRecords s).frx = s.frx ∧
      (tickRecords s).lastSender = s.lastSender ∧ (tickRecords s).rpu = s.rpu ∧ (tickRecords s).rxp = s.rxp ∧
      (tickRecords s).cgm = s.cgm ∧ (tickRecords s).stc = s.stc ∧ (tickRecords s).hpt = s.hpt ∧
      (tickRecords s).pending = s.pending := by
  have main : ∀ (b : Vector Peer 32) (ps : List (Fin 32)) (s : State), (ps.foldl (expirePeer b) s).pins = s.pins ∧ (ps.foldl (expirePeer b) s).lif = s.lif ∧ (ps.foldl (expirePeer b) s).frx = s.frx ∧
      (ps.foldl (expirePeer b) s).lastSender = s.lastSender ∧ (ps.foldl (expirePeer b) s).rpu = s.rpu ∧ (ps.foldl (expirePeer b) s).rxp = s.rxp ∧
      (ps.foldl (expirePeer b) s).cgm = s.cgm ∧ (ps.foldl (expirePeer b) s).stc = s.stc ∧ (ps.foldl (expirePeer b) s).hpt = s.hpt ∧
      (ps.foldl (expirePeer b) s).pending = s.pending := by
    intro b ps
    induction ps with
    | nil => intro s; simp
    | cons p ps ih => intro s; simp [ih]
  unfold tickRecords freeOrder
  simp only
  split <;> simp [main]

/-! ### Receive Pool -/

@[simp] theorem storeFrame_frame (b : Bool) (f : GoodFrame) :
      (storeFrame b f s).pins = s.pins ∧ (storeFrame b f s).lif = s.lif ∧ (storeFrame b f s).frx = s.frx ∧
      (storeFrame b f s).lastSender = s.lastSender ∧ (storeFrame b f s).txq = s.txq ∧ (storeFrame b f s).rpu = s.rpu ∧
      (storeFrame b f s).ptb = s.ptb ∧ (storeFrame b f s).stc = s.stc ∧ (storeFrame b f s).hpt = s.hpt ∧
      (storeFrame b f s).choices = s.choices ∧ (storeFrame b f s).pending = s.pending := by
  simp [storeFrame]

@[simp] theorem admitBroadcast_frame (f : GoodFrame) :
      (admitBroadcast f s).pins = s.pins ∧ (admitBroadcast f s).lif = s.lif ∧ (admitBroadcast f s).frx = s.frx ∧
      (admitBroadcast f s).lastSender = s.lastSender ∧ (admitBroadcast f s).txq = s.txq ∧ (admitBroadcast f s).rpu = s.rpu ∧
      (admitBroadcast f s).ptb = s.ptb ∧ (admitBroadcast f s).stc = s.stc ∧ (admitBroadcast f s).hpt = s.hpt ∧
      (admitBroadcast f s).choices = s.choices ∧ (admitBroadcast f s).pending = s.pending := by
  unfold admitBroadcast
  dsimp only
  (repeat' split) <;> simp

@[simp] theorem deliveryExpires_frame :
      (deliveryExpires s).pins = s.pins ∧ (deliveryExpires s).lif = s.lif ∧ (deliveryExpires s).frx = s.frx ∧
      (deliveryExpires s).lastSender = s.lastSender ∧ (deliveryExpires s).txq = s.txq ∧ (deliveryExpires s).rpu = s.rpu ∧
      (deliveryExpires s).ptb = s.ptb ∧ (deliveryExpires s).cgm = s.cgm ∧ (deliveryExpires s).stc = s.stc ∧
      (deliveryExpires s).hpt = s.hpt ∧ (deliveryExpires s).notices = s.notices ∧ (deliveryExpires s).counters = s.counters ∧
      (deliveryExpires s).choices = s.choices ∧ (deliveryExpires s).pending = s.pending := by
  simp [deliveryExpires]

@[simp] theorem tickDelivery_frame :
      (tickDelivery s).pins = s.pins ∧ (tickDelivery s).lif = s.lif ∧ (tickDelivery s).frx = s.frx ∧
      (tickDelivery s).lastSender = s.lastSender ∧ (tickDelivery s).txq = s.txq ∧ (tickDelivery s).rpu = s.rpu ∧
      (tickDelivery s).ptb = s.ptb ∧ (tickDelivery s).cgm = s.cgm ∧ (tickDelivery s).stc = s.stc ∧
      (tickDelivery s).hpt = s.hpt ∧ (tickDelivery s).notices = s.notices ∧ (tickDelivery s).counters = s.counters ∧
      (tickDelivery s).choices = s.choices ∧ (tickDelivery s).pending = s.pending := by
  unfold tickDelivery
  dsimp only
  (repeat' split) <;> simp

@[simp] theorem tickRefresh_frame :
      (tickRefresh s).pins = s.pins ∧ (tickRefresh s).lif = s.lif ∧ (tickRefresh s).frx = s.frx ∧
      (tickRefresh s).lastSender = s.lastSender ∧ (tickRefresh s).txq = s.txq ∧ (tickRefresh s).rpu = s.rpu ∧
      (tickRefresh s).ptb = s.ptb ∧ (tickRefresh s).rxp = s.rxp ∧ (tickRefresh s).stc = s.stc ∧
      (tickRefresh s).hpt = s.hpt ∧ (tickRefresh s).notices = s.notices ∧ (tickRefresh s).counters = s.counters ∧
      (tickRefresh s).choices = s.choices ∧ (tickRefresh s).pending = s.pending := by
  unfold tickRefresh
  dsimp only
  (repeat' split) <;> simp

/-! ### Station Control and Access Ladder -/

@[simp] theorem enterAnnouncing_frame :
      (enterAnnouncing s).pins = s.pins ∧ (enterAnnouncing s).lif = s.lif ∧ (enterAnnouncing s).frx = s.frx ∧
      (enterAnnouncing s).lastSender = s.lastSender ∧ (enterAnnouncing s).rpu = s.rpu ∧ (enterAnnouncing s).ptb = s.ptb ∧
      (enterAnnouncing s).rxp = s.rxp ∧ (enterAnnouncing s).cgm = s.cgm ∧ (enterAnnouncing s).hpt = s.hpt ∧
      (enterAnnouncing s).notices = s.notices ∧ (enterAnnouncing s).counters = s.counters ∧ (enterAnnouncing s).choices = s.choices ∧
      (enterAnnouncing s).pending = s.pending := by
  simp [enterAnnouncing]

@[simp] theorem learned_frame :
      (learned s).pins = s.pins ∧ (learned s).lif = s.lif ∧ (learned s).frx = s.frx ∧
      (learned s).lastSender = s.lastSender ∧ (learned s).rpu = s.rpu ∧ (learned s).ptb = s.ptb ∧
      (learned s).rxp = s.rxp ∧ (learned s).cgm = s.cgm ∧ (learned s).hpt = s.hpt ∧
      (learned s).notices = s.notices ∧ (learned s).counters = s.counters ∧ (learned s).choices = s.choices ∧
      (learned s).pending = s.pending := by
  unfold learned
  (repeat' split) <;> simp

@[simp] theorem ladderUnknown_frame :
      (ladderUnknown s).pins = s.pins ∧ (ladderUnknown s).lif = s.lif ∧ (ladderUnknown s).frx = s.frx ∧
      (ladderUnknown s).txq = s.txq ∧ (ladderUnknown s).rpu = s.rpu ∧ (ladderUnknown s).ptb = s.ptb ∧
      (ladderUnknown s).rxp = s.rxp ∧ (ladderUnknown s).cgm = s.cgm ∧ (ladderUnknown s).stc = s.stc ∧
      (ladderUnknown s).hpt = s.hpt ∧ (ladderUnknown s).notices = s.notices ∧ (ladderUnknown s).counters = s.counters ∧
      (ladderUnknown s).choices = s.choices ∧ (ladderUnknown s).pending = s.pending := by
  unfold ladderUnknown
  (repeat' split) <;> simp

@[simp] theorem ladderHeard_frame (n : Nat) :
      (ladderHeard n s).pins = s.pins ∧ (ladderHeard n s).lif = s.lif ∧ (ladderHeard n s).frx = s.frx ∧
      (ladderHeard n s).rpu = s.rpu ∧ (ladderHeard n s).ptb = s.ptb ∧ (ladderHeard n s).rxp = s.rxp ∧
      (ladderHeard n s).cgm = s.cgm ∧ (ladderHeard n s).hpt = s.hpt ∧ (ladderHeard n s).notices = s.notices ∧
      (ladderHeard n s).counters = s.counters ∧ (ladderHeard n s).choices = s.choices ∧ (ladderHeard n s).pending = s.pending := by
  unfold ladderHeard
  (repeat' split) <;> simp

@[simp] theorem ladderOutcome_frame (k : FrameKind) (o : OwnOutcome) :
      (ladderOutcome k o s).pins = s.pins ∧ (ladderOutcome k o s).lif = s.lif ∧ (ladderOutcome k o s).frx = s.frx ∧
      (ladderOutcome k o s).txq = s.txq ∧ (ladderOutcome k o s).rpu = s.rpu ∧ (ladderOutcome k o s).ptb = s.ptb ∧
      (ladderOutcome k o s).rxp = s.rxp ∧ (ladderOutcome k o s).cgm = s.cgm ∧ (ladderOutcome k o s).stc = s.stc ∧
      (ladderOutcome k o s).hpt = s.hpt ∧ (ladderOutcome k o s).notices = s.notices ∧ (ladderOutcome k o s).counters = s.counters ∧
      (ladderOutcome k o s).choices = s.choices ∧ (ladderOutcome k o s).pending = s.pending := by
  unfold ladderOutcome
  (repeat' split) <;> simp

@[simp] theorem leaveCompletion_frame :
      (leaveCompletion s).pins = s.pins ∧ (leaveCompletion s).lif = s.lif ∧ (leaveCompletion s).frx = s.frx ∧
      (leaveCompletion s).rpu = s.rpu ∧ (leaveCompletion s).rxp = s.rxp ∧ (leaveCompletion s).cgm = s.cgm ∧
      (leaveCompletion s).hpt = s.hpt ∧ (leaveCompletion s).choices = s.choices ∧ (leaveCompletion s).pending = s.pending := by
  simp [leaveCompletion]

@[simp] theorem attemptEnded_frame :
      (attemptEnded s).pins = s.pins ∧ (attemptEnded s).lif = s.lif ∧ (attemptEnded s).frx = s.frx ∧
      (attemptEnded s).rpu = s.rpu ∧ (attemptEnded s).rxp = s.rxp ∧ (attemptEnded s).cgm = s.cgm ∧
      (attemptEnded s).hpt = s.hpt ∧ (attemptEnded s).choices = s.choices ∧ (attemptEnded s).pending = s.pending := by
  unfold attemptEnded
  (repeat' split) <;> simp

@[simp] theorem enterHalted_frame (k : FrameKind) :
      (enterHalted k s).pins = s.pins ∧ (enterHalted k s).lif = s.lif ∧ (enterHalted k s).frx = s.frx ∧
      (enterHalted k s).lastSender = s.lastSender ∧ (enterHalted k s).txq = s.txq ∧ (enterHalted k s).rpu = s.rpu ∧
      (enterHalted k s).ptb = s.ptb ∧ (enterHalted k s).rxp = s.rxp ∧ (enterHalted k s).hpt = s.hpt ∧
      (enterHalted k s).choices = s.choices ∧ (enterHalted k s).pending = s.pending := by
  simp [enterHalted]

@[simp] theorem enterActive_frame :
      (enterActive s).pins = s.pins ∧ (enterActive s).lif = s.lif ∧ (enterActive s).frx = s.frx ∧
      (enterActive s).lastSender = s.lastSender ∧ (enterActive s).txq = s.txq ∧ (enterActive s).rpu = s.rpu ∧
      (enterActive s).ptb = s.ptb ∧ (enterActive s).rxp = s.rxp ∧ (enterActive s).hpt = s.hpt ∧
      (enterActive s).choices = s.choices ∧ (enterActive s).pending = s.pending := by
  simp [enterActive]

@[simp] theorem stationOutcome_frame (w : OwnFrame) (o : OwnOutcome) (b : Bool) :
      (stationOutcome w o b s).pins = s.pins ∧ (stationOutcome w o b s).lif = s.lif ∧ (stationOutcome w o b s).frx = s.frx ∧
      (stationOutcome w o b s).rpu = s.rpu ∧ (stationOutcome w o b s).rxp = s.rxp ∧ (stationOutcome w o b s).hpt = s.hpt ∧
      (stationOutcome w o b s).choices = s.choices ∧ (stationOutcome w o b s).pending = s.pending := by
  unfold stationOutcome
  (repeat' split) <;> simp

/-! ### Line Interface -/

@[simp] theorem requesterOutcome_frame (w : OwnFrame) (o : OwnOutcome) :
      (requesterOutcome w o s).pins = s.pins ∧ (requesterOutcome w o s).lif = s.lif ∧ (requesterOutcome w o s).frx = s.frx ∧
      (requesterOutcome w o s).lastSender = s.lastSender ∧ (requesterOutcome w o s).ptb = s.ptb ∧ (requesterOutcome w o s).rxp = s.rxp ∧
      (requesterOutcome w o s).cgm = s.cgm ∧ (requesterOutcome w o s).stc = s.stc ∧ (requesterOutcome w o s).hpt = s.hpt ∧
      (requesterOutcome w o s).choices = s.choices ∧ (requesterOutcome w o s).pending = s.pending := by
  unfold requesterOutcome
  dsimp only
  (repeat' split) <;> simp

@[simp] theorem handOutcome_frame (w : OwnFrame) (o : OwnOutcome) :
      (handOutcome w o s).pins = s.pins ∧ (handOutcome w o s).lif = s.lif ∧ (handOutcome w o s).frx = s.frx ∧
      (handOutcome w o s).rxp = s.rxp ∧ (handOutcome w o s).hpt = s.hpt ∧ (handOutcome w o s).choices = s.choices ∧
      (handOutcome w o s).pending = s.pending := by
  simp [handOutcome]

@[simp] theorem finishOwnFrame_frame :
      (finishOwnFrame s).pins = s.pins ∧ (finishOwnFrame s).frx = s.frx ∧ (finishOwnFrame s).rxp = s.rxp ∧
      (finishOwnFrame s).hpt = s.hpt ∧ (finishOwnFrame s).choices = s.choices ∧ (finishOwnFrame s).pending = s.pending := by
  unfold finishOwnFrame
  dsimp only
  (repeat' split) <;> simp

@[simp] theorem collide_frame :
      (collide s).pins = s.pins ∧ (collide s).lastSender = s.lastSender ∧ (collide s).txq = s.txq ∧
      (collide s).rpu = s.rpu ∧ (collide s).ptb = s.ptb ∧ (collide s).rxp = s.rxp ∧
      (collide s).cgm = s.cgm ∧ (collide s).stc = s.stc ∧ (collide s).hpt = s.hpt ∧
      (collide s).notices = s.notices ∧ (collide s).choices = s.choices ∧ (collide s).pending = s.pending := by
  simp [collide]

@[simp] theorem compareEcho_frame (v : Byte) (b : Bool) :
      (compareEcho v b s).pins = s.pins ∧ (compareEcho v b s).lastSender = s.lastSender ∧ (compareEcho v b s).txq = s.txq ∧
      (compareEcho v b s).rpu = s.rpu ∧ (compareEcho v b s).ptb = s.ptb ∧ (compareEcho v b s).rxp = s.rxp ∧
      (compareEcho v b s).cgm = s.cgm ∧ (compareEcho v b s).stc = s.stc ∧ (compareEcho v b s).hpt = s.hpt ∧
      (compareEcho v b s).notices = s.notices ∧ (compareEcho v b s).choices = s.choices ∧ (compareEcho v b s).pending = s.pending := by
  unfold compareEcho
  dsimp only
  (repeat' split) <;> simp

/-! ### Reply Unit -/

@[simp] theorem abandonReply_frame :
      (abandonReply s).pins = s.pins ∧ (abandonReply s).lif = s.lif ∧ (abandonReply s).frx = s.frx ∧
      (abandonReply s).lastSender = s.lastSender ∧ (abandonReply s).txq = s.txq ∧ (abandonReply s).ptb = s.ptb ∧
      (abandonReply s).rxp = s.rxp ∧ (abandonReply s).cgm = s.cgm ∧ (abandonReply s).stc = s.stc ∧
      (abandonReply s).hpt = s.hpt ∧ (abandonReply s).notices = s.notices ∧ (abandonReply s).counters = s.counters ∧
      (abandonReply s).choices = s.choices ∧ (abandonReply s).pending = s.pending := by
  unfold abandonReply
  dsimp only
  (repeat' split) <;> simp

@[simp] theorem setLastReceived_frame (a q : Byte) :
      (setLastReceived a q s).pins = s.pins ∧ (setLastReceived a q s).lif = s.lif ∧ (setLastReceived a q s).frx = s.frx ∧
      (setLastReceived a q s).lastSender = s.lastSender ∧ (setLastReceived a q s).txq = s.txq ∧ (setLastReceived a q s).rpu = s.rpu ∧
      (setLastReceived a q s).rxp = s.rxp ∧ (setLastReceived a q s).cgm = s.cgm ∧ (setLastReceived a q s).stc = s.stc ∧
      (setLastReceived a q s).hpt = s.hpt ∧ (setLastReceived a q s).notices = s.notices ∧ (setLastReceived a q s).counters = s.counters ∧
      (setLastReceived a q s).choices = s.choices ∧ (setLastReceived a q s).pending = s.pending := by
  unfold setLastReceived
  dsimp only
  (repeat' split) <;> simp

@[simp] theorem applyDecision_frame (f : GoodFrame) (r : ReplyResult) :
      (applyDecision f r s).pins = s.pins ∧ (applyDecision f r s).lif = s.lif ∧ (applyDecision f r s).frx = s.frx ∧
      (applyDecision f r s).lastSender = s.lastSender ∧ (applyDecision f r s).txq = s.txq ∧ (applyDecision f r s).rpu = s.rpu ∧
      (applyDecision f r s).stc = s.stc ∧ (applyDecision f r s).hpt = s.hpt ∧ (applyDecision f r s).choices = s.choices ∧
      (applyDecision f r s).pending = s.pending := by
  unfold applyDecision
  dsimp only
  (repeat' split) <;> simp

@[simp] theorem createReply_frame (f : GoodFrame) (r : ReplyResult) :
      (createReply f r s).pins = s.pins ∧ (createReply f r s).lif = s.lif ∧ (createReply f r s).frx = s.frx ∧
      (createReply f r s).lastSender = s.lastSender ∧ (createReply f r s).txq = s.txq ∧ (createReply f r s).ptb = s.ptb ∧
      (createReply f r s).rxp = s.rxp ∧ (createReply f r s).cgm = s.cgm ∧ (createReply f r s).stc = s.stc ∧
      (createReply f r s).hpt = s.hpt ∧ (createReply f r s).notices = s.notices ∧ (createReply f r s).counters = s.counters ∧
      (createReply f r s).choices = s.choices ∧ (createReply f r s).pending = s.pending := by
  unfold createReply
  dsimp only
  (repeat' split) <;> simp

@[simp] theorem acceptUnicast_frame (f : GoodFrame) :
      (acceptUnicast f s).pins = s.pins ∧ (acceptUnicast f s).lif = s.lif ∧ (acceptUnicast f s).frx = s.frx ∧
      (acceptUnicast f s).lastSender = s.lastSender ∧ (acceptUnicast f s).txq = s.txq ∧ (acceptUnicast f s).stc = s.stc ∧
      (acceptUnicast f s).hpt = s.hpt ∧ (acceptUnicast f s).choices = s.choices ∧ (acceptUnicast f s).pending = s.pending := by
  unfold acceptUnicast
  (repeat' split) <;> simp

@[simp] theorem sendReply_frame (r : PendingReply) :
      (sendReply r s).pins = s.pins ∧ (sendReply r s).frx = s.frx ∧ (sendReply r s).lastSender = s.lastSender ∧
      (sendReply r s).txq = s.txq ∧ (sendReply r s).ptb = s.ptb ∧ (sendReply r s).rxp = s.rxp ∧
      (sendReply r s).cgm = s.cgm ∧ (sendReply r s).stc = s.stc ∧ (sendReply r s).hpt = s.hpt ∧
      (sendReply r s).notices = s.notices ∧ (sendReply r s).choices = s.choices ∧ (sendReply r s).pending = s.pending := by
  unfold sendReply
  dsimp only
  (repeat' split) <;> simp

@[simp] theorem endWait_frame (w : ReplyWait) (o : ReplyOutcome) :
      (endWait w o s).pins = s.pins ∧ (endWait w o s).lif = s.lif ∧ (endWait w o s).frx = s.frx ∧
      (endWait w o s).lastSender = s.lastSender ∧ (endWait w o s).rxp = s.rxp ∧ (endWait w o s).cgm = s.cgm ∧
      (endWait w o s).stc = s.stc ∧ (endWait w o s).hpt = s.hpt ∧ (endWait w o s).choices = s.choices ∧
      (endWait w o s).pending = s.pending := by
  unfold endWait
  dsimp only
  (repeat' split) <;> simp

@[simp] theorem waitGood_frame (f : GoodFrame) :
      (waitGood f s).pins = s.pins ∧ (waitGood f s).lif = s.lif ∧ (waitGood f s).frx = s.frx ∧
      (waitGood f s).lastSender = s.lastSender ∧ (waitGood f s).rxp = s.rxp ∧ (waitGood f s).cgm = s.cgm ∧
      (waitGood f s).stc = s.stc ∧ (waitGood f s).hpt = s.hpt ∧ (waitGood f s).choices = s.choices ∧
      (waitGood f s).pending = s.pending := by
  unfold waitGood
  (repeat' split) <;> simp

@[simp] theorem waitBad_frame :
      (waitBad s).pins = s.pins ∧ (waitBad s).lif = s.lif ∧ (waitBad s).frx = s.frx ∧
      (waitBad s).lastSender = s.lastSender ∧ (waitBad s).rxp = s.rxp ∧ (waitBad s).cgm = s.cgm ∧
      (waitBad s).stc = s.stc ∧ (waitBad s).hpt = s.hpt ∧ (waitBad s).choices = s.choices ∧
      (waitBad s).pending = s.pending := by
  unfold waitBad
  (repeat' split) <;> simp

@[simp] theorem waitNoise_frame :
      (waitNoise s).pins = s.pins ∧ (waitNoise s).lif = s.lif ∧ (waitNoise s).frx = s.frx ∧
      (waitNoise s).lastSender = s.lastSender ∧ (waitNoise s).rxp = s.rxp ∧ (waitNoise s).cgm = s.cgm ∧
      (waitNoise s).stc = s.stc ∧ (waitNoise s).hpt = s.hpt ∧ (waitNoise s).choices = s.choices ∧
      (waitNoise s).pending = s.pending := by
  unfold waitNoise
  (repeat' split) <;> simp

@[simp] theorem waitLead_frame :
      (waitLead s).pins = s.pins ∧ (waitLead s).lif = s.lif ∧ (waitLead s).frx = s.frx ∧
      (waitLead s).lastSender = s.lastSender ∧ (waitLead s).txq = s.txq ∧ (waitLead s).ptb = s.ptb ∧
      (waitLead s).rxp = s.rxp ∧ (waitLead s).cgm = s.cgm ∧ (waitLead s).stc = s.stc ∧
      (waitLead s).hpt = s.hpt ∧ (waitLead s).notices = s.notices ∧ (waitLead s).counters = s.counters ∧
      (waitLead s).choices = s.choices ∧ (waitLead s).pending = s.pending := by
  unfold waitLead
  dsimp only
  (repeat' split) <;> simp

/-! ### Frame Receiver -/

@[simp] theorem handNoise_frame :
      (handNoise s).pins = s.pins ∧ (handNoise s).lif = s.lif ∧ (handNoise s).frx = s.frx ∧
      (handNoise s).rxp = s.rxp ∧ (handNoise s).cgm = s.cgm ∧ (handNoise s).hpt = s.hpt ∧
      (handNoise s).choices = s.choices ∧ (handNoise s).pending = s.pending := by
  unfold handNoise afterWait
  dsimp only
  (repeat' split) <;> simp

@[simp] theorem handBad_frame (c : BadCause) :
      (handBad c s).pins = s.pins ∧ (handBad c s).lif = s.lif ∧ (handBad c s).frx = s.frx ∧
      (handBad c s).rxp = s.rxp ∧ (handBad c s).cgm = s.cgm ∧ (handBad c s).hpt = s.hpt ∧
      (handBad c s).choices = s.choices ∧ (handBad c s).pending = s.pending := by
  unfold handBad afterWait
  dsimp only
  (repeat' split) <;> simp

@[simp] theorem handLead_frame :
      (handLead s).pins = s.pins ∧ (handLead s).lif = s.lif ∧ (handLead s).frx = s.frx ∧
      (handLead s).lastSender = s.lastSender ∧ (handLead s).txq = s.txq ∧ (handLead s).ptb = s.ptb ∧
      (handLead s).rxp = s.rxp ∧ (handLead s).cgm = s.cgm ∧ (handLead s).stc = s.stc ∧
      (handLead s).hpt = s.hpt ∧ (handLead s).notices = s.notices ∧ (handLead s).counters = s.counters ∧
      (handLead s).choices = s.choices ∧ (handLead s).pending = s.pending := by
  simp [handLead]

@[simp] theorem handMismatch_frame (f : GoodFrame) :
      (handMismatch f s).pins = s.pins ∧ (handMismatch f s).lif = s.lif ∧ (handMismatch f s).frx = s.frx ∧
      (handMismatch f s).txq = s.txq ∧ (handMismatch f s).rpu = s.rpu ∧ (handMismatch f s).ptb = s.ptb ∧
      (handMismatch f s).rxp = s.rxp ∧ (handMismatch f s).cgm = s.cgm ∧ (handMismatch f s).stc = s.stc ∧
      (handMismatch f s).hpt = s.hpt ∧ (handMismatch f s).choices = s.choices ∧ (handMismatch f s).pending = s.pending := by
  unfold handMismatch
  (repeat' split) <;> simp

@[simp] theorem ladderFrame_frame (f : GoodFrame) :
      (ladderFrame f s).pins = s.pins ∧ (ladderFrame f s).lif = s.lif ∧ (ladderFrame f s).frx = s.frx ∧
      (ladderFrame f s).rpu = s.rpu ∧ (ladderFrame f s).ptb = s.ptb ∧ (ladderFrame f s).rxp = s.rxp ∧
      (ladderFrame f s).cgm = s.cgm ∧ (ladderFrame f s).hpt = s.hpt ∧ (ladderFrame f s).notices = s.notices ∧
      (ladderFrame f s).counters = s.counters ∧ (ladderFrame f s).choices = s.choices ∧ (ladderFrame f s).pending = s.pending := by
  unfold ladderFrame
  (repeat' split) <;> simp

@[simp] theorem handClash_frame (f : GoodFrame) :
      (handClash f s).pins = s.pins ∧ (handClash f s).lif = s.lif ∧ (handClash f s).frx = s.frx ∧
      (handClash f s).rxp = s.rxp ∧ (handClash f s).cgm = s.cgm ∧ (handClash f s).hpt = s.hpt ∧
      (handClash f s).choices = s.choices ∧ (handClash f s).pending = s.pending := by
  unfold handClash afterWait
  dsimp only
  (repeat' split) <;> simp

@[simp] theorem handOthers_frame (f : GoodFrame) :
      (handOthers f s).pins = s.pins ∧ (handOthers f s).lif = s.lif ∧ (handOthers f s).frx = s.frx ∧
      (handOthers f s).hpt = s.hpt ∧ (handOthers f s).choices = s.choices ∧ (handOthers f s).pending = s.pending := by
  unfold handOthers afterWait
  dsimp only
  (repeat' split) <;> simp

@[simp] theorem handGood_frame (f : GoodFrame) :
      (handGood f s).pins = s.pins ∧ (handGood f s).lif = s.lif ∧ (handGood f s).frx = s.frx ∧
      (handGood f s).hpt = s.hpt ∧ (handGood f s).choices = s.choices ∧ (handGood f s).pending = s.pending := by
  unfold handGood
  dsimp only
  (repeat' split) <;> simp

@[simp] theorem takeSync_frame (v : Byte) (a b : Bool) :
      (takeSync v a b s).pins = s.pins ∧ (takeSync v a b s).lif = s.lif ∧ (takeSync v a b s).rxp = s.rxp ∧
      (takeSync v a b s).cgm = s.cgm ∧ (takeSync v a b s).hpt = s.hpt ∧ (takeSync v a b s).choices = s.choices ∧
      (takeSync v a b s).pending = s.pending := by
  unfold takeSync
  dsimp only
  (repeat' split) <;> simp

@[simp] theorem failFrame_frame (a : Assembly) (c : BadCause) (n : FrameReceiver) :
      (failFrame a c n s).pins = s.pins ∧ (failFrame a c n s).lif = s.lif ∧ (failFrame a c n s).rxp = s.rxp ∧
      (failFrame a c n s).cgm = s.cgm ∧ (failFrame a c n s).hpt = s.hpt ∧ (failFrame a c n s).choices = s.choices ∧
      (failFrame a c n s).pending = s.pending := by
  unfold failFrame
  dsimp only
  (repeat' split) <;> simp

@[simp] theorem handSurvivor_frame (f : GoodFrame) :
      (handSurvivor f s).pins = s.pins ∧ (handSurvivor f s).lif = s.lif ∧ (handSurvivor f s).frx = s.frx ∧
      (handSurvivor f s).rxp = s.rxp ∧ (handSurvivor f s).cgm = s.cgm ∧ (handSurvivor f s).hpt = s.hpt ∧
      (handSurvivor f s).choices = s.choices ∧ (handSurvivor f s).pending = s.pending := by
  unfold handSurvivor
  (repeat' split) <;> simp

@[simp] theorem handPassed_frame (a : Assembly) (f : GoodFrame) :
      (handPassed a f s).pins = s.pins ∧ (handPassed a f s).lif = s.lif ∧ (handPassed a f s).frx = s.frx ∧
      (handPassed a f s).hpt = s.hpt ∧ (handPassed a f s).choices = s.choices ∧ (handPassed a f s).pending = s.pending := by
  unfold handPassed
  (repeat' split) <;> simp

@[simp] theorem passFrame_frame (a : Assembly) :
      (passFrame a s).pins = s.pins ∧ (passFrame a s).lif = s.lif ∧ (passFrame a s).hpt = s.hpt ∧
      (passFrame a s).choices = s.choices ∧ (passFrame a s).pending = s.pending := by
  unfold passFrame
  dsimp only
  (repeat' split) <;> simp

@[simp] theorem takeInFrame_frame (a : Assembly) (v : Byte) (b : Bool) :
      (takeInFrame a v b s).pins = s.pins ∧ (takeInFrame a v b s).lif = s.lif ∧ (takeInFrame a v b s).hpt = s.hpt ∧
      (takeInFrame a v b s).choices = s.choices ∧ (takeInFrame a v b s).pending = s.pending := by
  unfold takeInFrame
  (repeat' split) <;> simp

@[simp] theorem receiveCharacter_frame (v : Byte) (a b : Bool) :
      (receiveCharacter v a b s).pins = s.pins ∧ (receiveCharacter v a b s).lif = s.lif ∧ (receiveCharacter v a b s).hpt = s.hpt ∧
      (receiveCharacter v a b s).choices = s.choices ∧ (receiveCharacter v a b s).pending = s.pending := by
  unfold receiveCharacter
  (repeat' split) <;> simp

@[simp] theorem receiveGap_frame :
      (receiveGap s).pins = s.pins ∧ (receiveGap s).lif = s.lif ∧ (receiveGap s).rxp = s.rxp ∧
      (receiveGap s).cgm = s.cgm ∧ (receiveGap s).hpt = s.hpt ∧ (receiveGap s).choices = s.choices ∧
      (receiveGap s).pending = s.pending := by
  unfold receiveGap
  (repeat' split) <;> simp

/-! ### Transmitter -/

@[simp] theorem sendCharacter_frame :
      (sendCharacter s).pins = s.pins ∧ (sendCharacter s).frx = s.frx ∧ (sendCharacter s).lastSender = s.lastSender ∧
      (sendCharacter s).txq = s.txq ∧ (sendCharacter s).rpu = s.rpu ∧ (sendCharacter s).ptb = s.ptb ∧
      (sendCharacter s).rxp = s.rxp ∧ (sendCharacter s).cgm = s.cgm ∧ (sendCharacter s).stc = s.stc ∧
      (sendCharacter s).hpt = s.hpt ∧ (sendCharacter s).notices = s.notices ∧ (sendCharacter s).counters = s.counters ∧
      (sendCharacter s).choices = s.choices ∧ (sendCharacter s).pending = s.pending := by
  unfold sendCharacter
  (repeat' split) <;> simp

@[simp] theorem lastStopBitEnds_frame :
      (lastStopBitEnds s).pins = s.pins ∧ (lastStopBitEnds s).frx = s.frx ∧ (lastStopBitEnds s).lastSender = s.lastSender ∧
      (lastStopBitEnds s).txq = s.txq ∧ (lastStopBitEnds s).rpu = s.rpu ∧ (lastStopBitEnds s).ptb = s.ptb ∧
      (lastStopBitEnds s).rxp = s.rxp ∧ (lastStopBitEnds s).cgm = s.cgm ∧ (lastStopBitEnds s).stc = s.stc ∧
      (lastStopBitEnds s).hpt = s.hpt ∧ (lastStopBitEnds s).notices = s.notices ∧ (lastStopBitEnds s).counters = s.counters ∧
      (lastStopBitEnds s).choices = s.choices ∧ (lastStopBitEnds s).pending = s.pending := by
  unfold lastStopBitEnds
  dsimp only
  (repeat' split) <;> simp

@[simp] theorem startBitDue_frame :
      (startBitDue s).pins = s.pins ∧ (startBitDue s).frx = s.frx ∧ (startBitDue s).lastSender = s.lastSender ∧
      (startBitDue s).txq = s.txq ∧ (startBitDue s).rpu = s.rpu ∧ (startBitDue s).ptb = s.ptb ∧
      (startBitDue s).rxp = s.rxp ∧ (startBitDue s).cgm = s.cgm ∧ (startBitDue s).stc = s.stc ∧
      (startBitDue s).hpt = s.hpt ∧ (startBitDue s).notices = s.notices ∧ (startBitDue s).counters = s.counters ∧
      (startBitDue s).choices = s.choices ∧ (startBitDue s).pending = s.pending := by
  unfold startBitDue
  (repeat' split) <;> simp

end Sys2Proof.Machine
end

