-- ==== Sys2Proof/Laws/Operations.lean ====
section
/-! SUPPORT. For each shared operation, what it can do, said once: proofs cite these instead of unfolding the operation. -/

namespace Sys2Proof.Machine

/-! ### Order and lists -/

theorem insertByRank_perm {α : Type} (rank : α → Nat) (x : α) (xs : List α) :
    (insertByRank rank x xs).Perm (x :: xs) := by
  induction xs with
  | nil => exact List.Perm.refl _
  | cons y ys ih =>
    simp only [insertByRank]
    split
    · exact List.Perm.refl _
    · exact (ih.cons y).trans (List.Perm.swap x y ys)

theorem sortByRank_perm {α : Type} (rank : α → Nat) (xs : List α) : (sortByRank rank xs).Perm xs := by
  induction xs with
  | nil => exact List.Perm.refl _
  | cons x xs ih => exact (insertByRank_perm rank x _).trans (ih.cons x)

theorem insertByRank_sorted {α : Type} (rank : α → Nat) (x : α) (xs : List α)
    (h : xs.Pairwise fun a b => rank a ≤ rank b) :
    (insertByRank rank x xs).Pairwise fun a b => rank a ≤ rank b := by
  induction xs with
  | nil => simp [insertByRank]
  | cons y ys ih =>
    obtain ⟨hy, hys⟩ := List.pairwise_cons.1 h
    simp only [insertByRank]
    split
    · rename_i hxy
      refine List.pairwise_cons.2 ⟨fun z hz => ?_, h⟩
      rcases List.mem_cons.1 hz with rfl | hz
      · exact hxy
      · exact le_trans hxy (hy z hz)
    · rename_i hxy
      refine List.pairwise_cons.2 ⟨fun z hz => ?_, ih hys⟩
      rcases List.mem_cons.1 ((insertByRank_perm rank x ys).mem_iff.1 hz) with rfl | hz
      · omega
      · exact hy z hz

theorem sortByRank_sorted {α : Type} (rank : α → Nat) (xs : List α) :
    (sortByRank rank xs).Pairwise fun a b => rank a ≤ rank b := by
  induction xs with
  | nil => exact List.Pairwise.nil
  | cons x xs ih => exact insertByRank_sorted rank x _ ih

/-- The free order is some order of the same things, and changes nothing but the count of choices. -/
theorem freeOrder_perm {α : Type} (key : α → Nat) (xs : List α) (s : State) : (freeOrder key xs s).1.Perm xs := by
  unfold freeOrder
  split
  · exact List.Perm.refl _
  · exact sortByRank_perm _ _

theorem freeOrder_state {α : Type} (key : α → Nat) (xs : List α) (s : State) :
    (freeOrder key xs s).2 = { s with choices := (freeOrder key xs s).2.choices } := by
  unfold freeOrder
  split <;> rfl

@[simp] theorem mapCells_get {α β : Type} {n : Nat} (f : α → β) (v : Vector α n) (i : Nat) (h : i < n) :
    (mapCells f v)[i] = f v[i] := by
  simp [mapCells]

@[simp] theorem mapCells_get_fin {α β : Type} {n : Nat} (f : α → β) (v : Vector α n) (i : Fin n) :
    (mapCells f v)[i] = f v[i] := by
  simp [mapCells]

theorem mem_allHandles (h : Fin 16) : h ∈ allHandles := by revert h; decide

theorem mem_allRecords (p : Fin 32) : p ∈ allRecords := by revert p; decide

theorem allHandles_nodup : allHandles.Nodup := by decide

theorem allRecords_nodup : allRecords.Nodup := by decide

/-! ### Numbers and bytes -/

theorem byteOf_toNat (n : Nat) : (byteOf n).toNat = n % 256 := by simp [byteOf]

theorem byteOf_toNat_of_lt {n : Nat} (h : n < 256) : (byteOf n).toNat = n := by
  rw [byteOf_toNat, Nat.mod_eq_of_lt h]

theorem byteOf_of_toNat (b : Byte) : byteOf b.toNat = b := by simp [byteOf]

@[simp] theorem recordOf_byteOf (p : Fin 32) : recordOf (byteOf p.val) = some p := by
  have h : (byteOf p.val).toNat = p.val := byteOf_toNat_of_lt (by omega)
  unfold recordOf
  split
  · simp only [h, Fin.eta]
  · omega

theorem recordOf_eq_some {b : Byte} {p : Fin 32} : recordOf b = some p ↔ b = byteOf p.val := by
  constructor
  · intro h
    unfold recordOf at h
    split at h
    · cases h
      exact (byteOf_of_toNat b).symm
    · cases h
  · rintro rfl
    exact recordOf_byteOf p

theorem recordOf_eq_none {b : Byte} : recordOf b = none ↔ 32 ≤ b.toNat := by
  unfold recordOf
  split <;> simp <;> omega

@[simp] theorem handleOf_byteOf (h : Fin 16) : handleOf (byteOf h.val) = some h := by
  have hh : (byteOf h.val).toNat = h.val := byteOf_toNat_of_lt (by omega)
  unfold handleOf
  split
  · simp only [hh, Fin.eta]
  · omega

theorem handleOf_eq_none {b : Byte} : handleOf b = none ↔ 16 ≤ b.toNat := by
  unfold handleOf
  split <;> simp <;> omega

theorem countUp_eq (n : Nat) : countUp n = oneMore n := rfl

theorem oneMore_le {n : Nat} (h : n ≤ 65535) : oneMore n ≤ 65535 := by
  unfold oneMore
  split <;> omega

/-! ### Notices, the fill, ATTN -/

/-- ATTN's level is asserted exactly as R177 says. -/
theorem attnLevel_iff (s : State) : (s.hpt.attn = attnLevel s) ↔ AttnLaw s := by
  have : attnLevel s = true ↔ (s.pins.vddOk = true ∧ s.pins.nresetLow = false ∧ s.pins.vioOk = true ∧
      ((s.notices ≠ [] ∧ s.stc.config.attnMask.notices = true) ∨
        (s.rxp.urgent ≠ [] ∧ s.stc.config.attnMask.urgent = true) ∨
        (s.stc.config.deliveryThreshold ≤ s.rxp.normal.length ∧ s.stc.config.attnMask.threshold = true) ∨
        (s.rxp.stale = true ∧ s.stc.config.attnMask.stale = true))) := by
    simp [attnLevel, portLive, running, AttnFlags.meets, attnCauses, or_assoc, and_assoc]
  unfold AttnLaw
  rw [← this]
  cases s.hpt.attn <;> cases attnLevel s <;> simp

/-- Settling ATTN gives it its law (R178). -/
theorem settleAttn_law (s : State) : AttnLaw (settleAttn s) := (attnLevel_iff _).1 rfl

theorem offerNotice_offered (n : Notice) (s : State) : NoticeOffered n s (offerNotice n s) := by
  unfold NoticeOffered offerNotice
  by_cases h : n.kind.isCompletion = true
  · simp [h]
  · by_cases h' : informationalCount s.notices < 16 <;> simp [h, h', Config.informationalLimit, countUp_eq]

/-- A completion notice is admitted in every case (R172). -/
theorem offerNotice_completion {n : Notice} (h : n.kind.isCompletion = true) (s : State) :
    offerNotice n s = { s with notices := s.notices ++ [n] } := by
  simp [offerNotice, h]

theorem completionNotice_isCompletion (h : Fin 16) (o : EntryOutcome) :
    (completionNotice h o).kind.isCompletion = true := by
  cases o <;> rfl

theorem completionNotice_injective {h h' : Fin 16} {o o' : EntryOutcome}
    (e : completionNotice h o = completionNotice h' o') : h = h' ∧ o = o' := by
  have subject : ∀ (k : Fin 16) (r : EntryOutcome), (completionNotice k r).subject = byteOf k.val := by
    intro k r; cases r <;> rfl
  have handle : h = h' := by
    have hs : handleOf (byteOf h.val) = handleOf (byteOf h'.val) := by rw [← subject h o, ← subject h' o', e]
    simpa using hs
  subst handle
  refine ⟨rfl, ?_⟩
  cases o <;> cases o' <;> simp_all [completionNotice]

/-- The fill judged: the monitor, the notice, and nothing else (R134, R135). -/
theorem judgeFill_judged (s : State) : FillJudged s.cgm s (judgeFill s) := by
  have offered := fun (n : Notice) (m : CongestionMonitor) => offerNotice_offered n (setMonitor m s)
  have back : ∀ (n : Notice) (m : CongestionMonitor) (t : State),
      NoticeOffered n (setMonitor m s) t = NoticeOffered n s t := fun _ _ _ => rfl
  simp only [back] at offered
  unfold FillJudged judgeFill
  by_cases hc : s.cgm.congested = true
  · by_cases hl : s.rxp.fill ≤ s.cgm.lowMark
    · simp only [hc, hl, if_true, offerNotice_frame, setMonitor_rxp, setMonitor_stc, setMonitor_cgm]
      refine ⟨?_, offered _ _⟩
      simp [monitorRelief, isActive]
    · simp [hc, hl, NothingReported]
  · by_cases hh : s.cgm.highMark ≤ s.rxp.fill
    · simp only [hc, hh, if_true, Bool.false_eq_true, if_false, offerNotice_frame, setMonitor_rxp, setMonitor_stc,
        setMonitor_cgm]
      refine ⟨?_, offered _ _⟩
      cases ha : s.cgm.announcement with
      | none => simp [monitorOnset, isActive, ha]
      | some a => cases a <;> simp [monitorOnset, refreshLoad, ha]
    · simp [hc, hh, NothingReported]

/-- The fill is judged with the monitor, the notices and the counters alone. -/
theorem judgeFill_state (s : State) :
    judgeFill s = { s with cgm := (judgeFill s).cgm, notices := (judgeFill s).notices, counters := (judgeFill s).counters } := by
  have := judgeFill_frame s
  cases hh : judgeFill s
  simp_all

/-! ### Claims that silence makes -/

theorem takeBitTime_eq (s : State) : takeBitTime s = atBoundary s := by
  unfold takeBitTime atBoundary
  cases h : s.lif.own <;> simp

theorem setIdle_eq (k : Nat) (s : State) : setIdle k s = atIdleTime k s := by
  simp [setIdle, atIdleTime, takeBitTime_eq]

/-- A character begins only in a frame that is not cut, so the moment a start bit is due does one thing or the other. -/
theorem startBitDue_cases (s : State) :
    (s.lif.isCut = true ∧ startBitDue s = lastStopBitEnds s) ∨ (s.lif.isCut = false ∧ startBitDue s = sendCharacter s) := by
  unfold startBitDue
  cases s.lif.isCut <;> simp

theorem ladderUnknown_eq (s : State) : ladderUnknown s = { s with lastSender := senderLost s } := by
  unfold ladderUnknown senderLost joined
  by_cases h : s.stc.station = .unjoined <;> simp [h, setLastSender]

theorem abandonReply_eq (s : State) : abandonReply s = { s with rpu := { s.rpu with pending := replyKept s } } := by
  rcases s with ⟨_, _, _, _, _, ⟨pending, wait⟩, _, _, _, _, _, _, _, _, _⟩
  unfold abandonReply replyKept
  cases pending with
  | none => rfl
  | some r => cases hs : r.sending <;> simp [Option.filter, hs]

/-- Noise, with no reply wait in OPEN: counted, last sender UNKNOWN, a decided reply abandoned (R8, R32, R83). -/
theorem handNoise_quiet {s : State} (hw : ∀ w, s.rpu.wait = some w → w.candidate = true) :
    handNoise s = { s with counters := { s.counters with noise := oneMore s.counters.noise },
                           lastSender := senderLost s, rpu := { s.rpu with pending := replyKept s } } := by
  have same : ∀ u : State, u.rpu.wait = s.rpu.wait → afterWait u (waitNoise u) = u := by
    intro u hu
    unfold afterWait waitNoise
    rw [hu]
    cases h : s.rpu.wait with
    | none => simp
    | some w => simp [hw w h, hu, h]
  unfold handNoise
  rw [same _ (by simp [abandonReply_eq, ladderUnknown_eq])]
  simp [abandonReply_eq, ladderUnknown_eq, senderLost, replyKept, countUp_eq]

/-- A bad frame, with no reply wait: counted by its cause, last sender UNKNOWN, a decided reply abandoned (R9, R32, R83). -/
theorem handBad_quiet (cause : BadCause) {s : State} (hw : s.rpu.wait = none) :
    handBad cause s = { s with counters := s.counters.countBad cause,
                               lastSender := senderLost s, rpu := { s.rpu with pending := replyKept s } } := by
  have same : ∀ u : State, u.rpu.wait = none → afterWait u (waitBad u) = u := by
    intro u hu
    simp [afterWait, waitBad, hu]
  unfold handBad
  rw [same _ (by simp [abandonReply_eq, ladderUnknown_eq, hw])]
  simp [abandonReply_eq, ladderUnknown_eq, senderLost, replyKept]

/-- A character where no comparison is open goes to the Frame Receiver alone (R19, R24). -/
theorem characterComplete_notComparing {s : State} {value : Byte} {stop lde : Bool} {d : Nat} (h : running s = true)
    (hn : NotComparing s.lif) (hr : s.lif.receiver = .inCharacter lde d) :
    exec (.characterComplete value stop) s =
      .next (settleAttn (receiveCharacter value stop lde (characterHeard stop s))) := by
  have key : ∀ u : State, u.lif = (characterHeard stop s).lif → finishOwnFrame (compareEcho value stop u) = u := by
    intro u hu
    have hc : compareEcho value stop u = u := by
      unfold compareEcho
      rw [hu]
      cases ho : s.lif.own with
      | none => simp [characterHeard, ho]
      | some o => simp [characterHeard, ho, (hn o ho).1]
    rw [hc]
    unfold finishOwnFrame endedOwnFrame
    rw [hu]
    cases ho : s.lif.own with
    | none => simp [characterHeard, ho]
    | some o =>
      have := (hn o ho).2
      cases ht : s.lif.transmitter <;> simp_all [characterHeard]
  simp only [exec, execCharacterComplete, whenRunning, h, if_true, characterCompletes, hr]
  have e : setLine (s.lif.heard (receiverAfter stop) stop) s = characterHeard stop s := by
    simp [setLine, LineInterface.heard, receiverAfter, characterHeard]
  rw [e, key]
  simp

/-! ### Entries -/

theorem completeEntry_eq (h : Fin 16) (e : Entry) (o : EntryOutcome) (s : State) :
    completeEntry h e o s =
      { s with txq := setSlot h (some { e with state := .complete o }) s.txq,
               notices := s.notices ++ [completionNotice h o] } := by
  cases o <;> rfl

theorem waitingState_eq (s : State) (dest : Byte) :
    (if destPaused s dest = true then EntryState.held else .waiting) = waitingState s dest := by
  unfold destPaused waitingState
  cases hr : recordOf dest with
  | none =>
    have : ¬ ∃ p : Fin 32, dest = byteOf p.val ∧ s.ptb.records[p].paused = true := by
      rintro ⟨p, rfl, -⟩
      simp at hr
    rw [if_neg this]
    rfl
  | some p =>
    obtain rfl := recordOf_eq_some.1 hr
    have : (∃ q : Fin 32, byteOf p.val = byteOf q.val ∧ s.ptb.records[q].paused = true) ↔
        s.ptb.records[p].paused = true := by
      constructor
      · rintro ⟨q, hq, h⟩
        have : recordOf (byteOf p.val) = recordOf (byteOf q.val) := by rw [hq]
        simp only [recordOf_byteOf, Option.some.injEq] at this
        exact this ▸ h
      · exact fun h => ⟨p, rfl, h⟩
    simp only [this]

theorem returnEntry_eq (h : Fin 16) (e : Entry) (s : State) :
    returnEntry h e s = { s with txq := setSlot h (some (returned s e)) s.txq } := by
  simp [returnEntry, setEntry, setSlot, returned, ← waitingState_eq]

theorem setSlot_get (h k : Fin 16) (e : Option Entry) (q : TransmitQueue) :
    (setSlot h e q).entries[k] = if k = h then e else q.entries[k] := by
  by_cases hk : k = h
  · subst hk
    simp [setSlot]
  · have : (h : Nat) ≠ k := fun e => hk (Fin.ext e.symm)
    simp [setSlot, hk, this]

theorem pauseEntries_entries (p : Fin 32) (s : State) :
    EntriesMapped (heldBy p) s (pauseEntries p true s) ∧ EntriesMapped (releasedBy p) s (pauseEntries p false s) := by
  have key : ∀ e : Entry, entryAfterPause p true e = heldBy p e ∧ entryAfterPause p false e = releasedBy p e := by
    intro e
    unfold entryAfterPause heldBy releasedBy
    by_cases hd : e.dest = byteOf p.val <;> cases hs : e.state <;> simp [hd]
  constructor <;> intro h <;> simp only [pauseEntries, mapCells_get_fin] <;>
    cases s.txq.entries[h] <;> simp [(key _).1, (key _).2]

theorem withdrawEntry_eq (s : State) (h : Fin 16) :
    withdrawEntry s h =
      { s with txq := { s.txq with entries := (withdrawEntry s h).txq.entries },
               notices := if entryIs s.txq EntryState.isQueued h = true then
                 s.notices ++ [completionNotice h .failedWithdrawn] else s.notices } := by
  unfold withdrawEntry entryIs
  split <;> rename_i he
  · split <;> rename_i hq
    · simp [completeEntry_eq, hq, he, setSlot]
    · simp [hq, he]
  · simp [he]

theorem withdrawEntry_get (s : State) (h k : Fin 16) :
    (withdrawEntry s h).txq.entries[k] = if k = h then (s.txq.entries[k]).map withdrawn else s.txq.entries[k] := by
  unfold withdrawEntry
  by_cases hk : k = h
  · subst hk
    split <;> rename_i he
    · split <;> rename_i hq
      · simp [completeEntry_eq, he, withdrawn, hq, setSlot]
      · simp [he, withdrawn, hq]
    · simp [he]
  · split <;> rename_i he
    · split <;> rename_i hq
      · simp only [completeEntry_eq, setSlot_get, hk, if_false]
      · simp
    · simp [hk]

theorem withdrawal_fold (order : List (Fin 16)) (hn : order.Nodup) : ∀ s : State,
    (∀ h ∈ order, entryIs s.txq EntryState.isQueued h = true) →
    order.foldl withdrawEntry s =
      { s with txq := { s.txq with entries := (order.foldl withdrawEntry s).txq.entries },
               notices := s.notices ++ withdrawalNotices order } ∧
    ∀ k : Fin 16, (order.foldl withdrawEntry s).txq.entries[k] =
      if k ∈ order then (s.txq.entries[k]).map withdrawn else s.txq.entries[k] := by
  induction order with
  | nil => intro s _; simp [withdrawalNotices]
  | cons h rest ih =>
    intro s hq
    obtain ⟨hn1, hn2⟩ := List.nodup_cons.1 hn
    have hq' : ∀ k ∈ rest, entryIs (withdrawEntry s h).txq EntryState.isQueued k = true := by
      intro k hk
      have := hq k (List.mem_cons_of_mem _ hk)
      have hne : k ≠ h := fun e => hn1 (e ▸ hk)
      unfold entryIs at this ⊢
      rw [withdrawEntry_get, if_neg hne]
      exact this
    obtain ⟨i1, i2⟩ := ih hn2 _ hq'
    refine ⟨?_, fun k => ?_⟩
    · rw [List.foldl_cons, i1, withdrawEntry_eq s h]
      simp [hq h (List.mem_cons_self ..), withdrawalNotices, completionNotice]
    · rw [List.foldl_cons, i2 k, withdrawEntry_get]
      by_cases hk : k = h
      · subst hk; simp [hn1]
      · simp [hk]

/-- The age that the queue chooses by is the submission counter minus the submission number (R53). -/
theorem entryAge_eq (s : State) (e : Entry) : entryAge s.txq e = ageOf s e := by
  have h : e.number.toNat < 2 ^ 32 := e.number.isLt
  simp only [entryAge, ageOf, BitVec.toNat_sub]
  congr 1
  omega

theorem handleAge_eq {s : State} {h : Fin 16} {e : Entry} (he : s.txq.entries[h] = some e) :
    handleAge s.txq h = ageOf s e := by
  unfold handleAge
  rw [he]
  exact entryAge_eq s e

theorem entryIs_queued {s : State} {h : Fin 16} :
    entryIs s.txq EntryState.isQueued h = true ↔
      ∃ e, s.txq.entries[h] = some e ∧ (e.state = .waiting ∨ e.state = .held) := by
  unfold entryIs
  cases he : s.txq.entries[h] with
  | none => simp
  | some e => cases hs : e.state <;> simp [EntryState.isQueued, hs]

theorem queuedOldestFirst_order (s : State) : QueuedOldestFirst s (queuedOldestFirst s.txq) := by
  refine ⟨fun h => ?_, ?_, ?_⟩
  · unfold queuedOldestFirst
    rw [(sortByRank_perm _ _).mem_iff, List.mem_filter, ← entryIs_queued]
    simp [mem_allHandles]
  · exact (sortByRank_perm _ _).nodup_iff.2 (allHandles_nodup.filter _)
  · refine (sortByRank_sorted _ _).imp ?_
    intro a b hab e e' he he'
    have ha : ∀ h : Fin 16, handleAge s.txq h < 2 ^ 32 := by
      intro h
      unfold handleAge entryAge
      split
      · exact BitVec.isLt _
      · decide
    have := ha a
    have := ha b
    rw [← handleAge_eq he, ← handleAge_eq he']
    omega

/-- The withdrawal of LEAVE: every queued entry, with its notices oldest first (R75). -/
theorem withdrawAll_eq (s : State) :
    withdrawAll s =
        { s with txq := { s.txq with entries := (withdrawAll s).txq.entries },
                 notices := s.notices ++ withdrawalNotices (queuedOldestFirst s.txq) } ∧
      EntriesMapped withdrawn s (withdrawAll s) := by
  obtain ⟨a, b, _⟩ := queuedOldestFirst_order s
  obtain ⟨f, g⟩ := withdrawal_fold _ b s (fun h hh => entryIs_queued.2 ((a h).1 hh))
  refine ⟨f, fun h => ?_⟩
  unfold withdrawAll
  rw [g h]
  split
  · rfl
  · rename_i hm
    have : entryIs s.txq EntryState.isQueued h ≠ true := fun hh => hm ((a h).2 (entryIs_queued.1 hh))
    unfold entryIs at this
    cases he : s.txq.entries[h] with
    | none => rfl
    | some e => simp [he] at this; simp [withdrawn, this]

/-! ### Timers -/

theorem timerExpires_iff {t : Option Nat} : timerExpires t = true ↔ ∃ n, t = some n ∧ n ≤ 1 := by
  cases t <;> simp [timerExpires]

theorem timerExpires_eq_false {t : Option Nat} : timerExpires t = false ↔ ∀ n, t = some n → 2 ≤ n := by
  cases t <;> simp [timerExpires, Nat.lt_iff_add_one_le]

/-- A silence timer's expiry loses the peer; a timer that goes on, or is stopped, has none (R18, R100, R101). -/
theorem silenceExpires_cases (p : Fin 32) (s : State) :
    (timerExpires s.ptb.records[p].silence = true ∧ silenceExpires p s = losePeer p s) ∨
    (timerExpires s.ptb.records[p].silence = false ∧ silenceExpires p s = s) := by
  unfold silenceExpires expirePeer
  cases timerExpires s.ptb.records[p].silence
  · exact .inr ⟨rfl, rfl⟩
  · exact .inl ⟨rfl, rfl⟩

/-- A pause timer's expiry unpauses the peer, or loses it where its silence timer expires with it; a timer that goes on, or is
stopped, has none (R18, R103, R105). -/
theorem pauseExpires_cases (p : Fin 32) (s : State) :
    (timerExpires s.ptb.records[p].pauseTimer = false ∧ pauseExpires p s = s) ∨
    (timerExpires s.ptb.records[p].pauseTimer = true ∧ timerExpires s.ptb.records[p].silence = true ∧
      pauseExpires p s = losePeer p s) ∨
    (timerExpires s.ptb.records[p].pauseTimer = true ∧ timerExpires s.ptb.records[p].silence = false ∧
      pauseExpires p s = resumePeer p .expiry s) := by
  unfold pauseExpires expirePeer
  cases timerExpires s.ptb.records[p].pauseTimer
  · exact .inl ⟨rfl, rfl⟩
  · cases timerExpires s.ptb.records[p].silence
    · exact .inr (.inr ⟨rfl, rfl, rfl⟩)
    · exact .inr (.inl ⟨rfl, rfl, rfl⟩)

/-! ### Own-marked frames -/

/-- A survivor of a collision is heard as a clash only from the own number, in a joined state, and where the free value has R50
hold; else it is dropped (R13, R14, R50; log entry 34). -/
theorem handSurvivor_cases (f : GoodFrame) (s : State) :
    (joined s = true ∧ f.source = ownByte s ∧ Config.survivorHeard = true ∧ handSurvivor f s = handClash f s) ∨
    ((joined s = false ∨ f.source ≠ ownByte s ∨ Config.survivorHeard = false) ∧ handSurvivor f s = s) := by
  unfold handSurvivor
  cases joined s <;> by_cases hf : f.source = ownByte s <;> cases Config.survivorHeard <;> simp [hf]

/-! ### Commands at the port -/

/-- Where the port takes the command, its row executes it, with the answer its effect gives (R162). -/
theorem onPort_taken {c : HostCommand} {s : State} (h : portTakes c s = true) (effect : Effect) :
    onPort c effect s = executeCommand c effect s := by
  simp [onPort, h]

theorem executeCommand_answered {c : HostCommand} (h : portAfter c = .answering) (effect : Effect) (s : State) :
    executeCommand c effect s = answered c (effect s).2 (effect s).1 := by
  simp [executeCommand, answered, setPort, h]

/-! ### The step -/

/-- A step takes the command at the front of the queue, or lets a bit time pass on an empty one. -/
theorem step_cases {s t : State} (h : step s = .next t) :
    (∃ c rest, s.pending = c :: rest ∧ exec c { s with pending := rest } = .next t) ∨
      (s.pending = [] ∧ t = idleStep s) := by
  unfold step at h
  cases hp : s.pending with
  | nil => simp only [hp] at h; exact .inr ⟨rfl, by cases h; rfl⟩
  | cons c rest => simp only [hp] at h; exact .inl ⟨c, rest, rfl, h⟩

end Sys2Proof.Machine
end

