-- ==== Sys2Proof/Tests/Slice0.lean ====
section
/-! SUPPORT. Tests: the byte forms and single steps against values worked out by hand from the spec, the well-formedness
smoke tests, and a witness that the hypotheses of each statement can be met. -/

namespace Sys2Proof.Tests

-- One theorem after another: kernel evaluations that wait for each other would each hold a thread.
set_option Elab.async false

open Sys2Proof.Machine

/-! ### States the tests use -/

/-- The state in which an outcome leaves the part; the reset state for a stop. -/
def after (o : Host.Outcome State Fault Refusal) : State :=
  match o with
  | .next s => s
  | .fault _ => State.reset
  | .refused _ => State.reset

/-- The state with the station in this state. -/
def stationIn (x : StationState) (s : State) : State := { s with stc := { s.stc with station := x } }

/-- The state with HCS low and the port taking a command. -/
def selected (s : State) : State :=
  { s with pins := { s.pins with hcsHigh := false }, hpt := { s.hpt with port := .takingCommand } }

/-- A joined, ACTIVE station of number 0 on a ladder of 8, with the receiver armed. -/
def active : State :=
  stationIn .active { State.reset with lif := { State.reset.lif with receiver := .armed }, frx := .awaitSync }

/-- An entry to station 1 in this state, once tried. -/
def entryIn (x : EntryState) : Entry :=
  { state := x, dest := 1, payload := [], number := 0, seq := some 0, attempts := 0, collisions := 0 }

/-- The state with this entry at handle 0. -/
def withEntry (e : Entry) (s : State) : State := { s with txq := { setSlot 0 (some e) s.txq with submissions := 1 } }

/-- The state with a record of the peer table replaced. -/
def withPeer (p : Fin 32) (r : Peer) (s : State) : State := { s with ptb := setRecord p r s.ptb }

/-- A paused record. -/
def pausedPeer : Peer :=
  { present := true, silence := some 512, paused := true, pauseTimer := some 64, nextSeq := 0, lastReceived := none }

/-- The state while a character is being received. -/
def receiving (s : State) : State :=
  { s with lif := { s.lif with receiver := .inCharacter false 13, idle := 0, idleCounting := false } }

/-- The state while the last character of these is being received, the others having come. -/
def lastOf (bytes : List Byte) (s : State) : State :=
  let t := receiving s
  match assembleAll (newAssembly false) (bytes.tail.dropLast) with
  | some a => { t with frx := .inFrame a }
  | none => t

/-- The state with this own frame in progress. -/
def sendingFrame (kind : FrameKind) (joining : Bool) (requester : Requester) (comparison : Comparison)
    (transmitter : Transmitter) (s : State) : State :=
  { s with lif := { s.lif with
      transmitter := transmitter, lde := true,
      own := some { kind := kind, joining := joining, requester := requester, comparison := comparison } } }

/-- The state with a reply wait for the entry at handle 0, to station 1. -/
def waiting (candidate : Bool) (s : State) : State :=
  { withEntry (entryIn .awaitingReply) s with
    rpu := { s.rpu with wait := some { handle := 0, dest := 1, seq := 0, candidate := candidate } } }

/-! ### Well-formedness (R21, R162, R165) -/

theorem test_submit_short_payload_refused : (Instr.submit 1 2 [7]).wellFormed = false := by decide
theorem test_submit_above_60_has_no_payload : (Instr.submit 1 61 [7]).wellFormed = false := by decide
theorem test_setField_wrong_length_refused : (Instr.setField 0x03 [13]).wellFormed = false := by decide
theorem test_setField_unknown_id_has_no_value : (Instr.setField 0x0F [0]).wellFormed = false := by decide
theorem test_unknownCommand_naming_a_command_refused : (Instr.unknownCommand 0x20).wellFormed = false := by decide
theorem test_slotOpening_zero_refused : (Instr.slotOpening 0).wellFormed = false := by decide
theorem test_listeningRoundEnd_zero_refused : (Instr.listeningRoundEnd 0).wellFormed = false := by decide
theorem test_submit_whole_taken : (Instr.submit 1 2 [7, 8]).wellFormed = true := by decide

/-! ### Byte forms -/

/-- The check of the bytes of "123456789" is 0x29B1 (1.3). -/
theorem test_check_of_digits :
    checkOf [0x31, 0x32, 0x33, 0x34, 0x35, 0x36, 0x37, 0x38, 0x39] = 0x29B1 := by
  decide +kernel

theorem test_readCommand_setField : readCommand [0x10, 0x03, 0x00, 0x0D] = some (.setField 0x03 [0x00, 0x0D]) := by decide
theorem test_readCommand_submit_waits : readCommand [0x30, 0x05, 0x02, 0x11] = none := by decide
theorem test_readCommand_submit_above_60 : readCommand [0x30, 0x05, 0x3D] = some (.submit 0x05 0x3D []) := by decide
theorem test_readCommand_unknown : readCommand [0x02] = some (.unknown 0x02) := by decide

/-- A divisor sent as 0x10, 0x00 is 4096 and is refused (R179). -/
theorem test_divisor_4096_refused : writeField ConfigRecord.defaults .divisor [0x10, 0x00] = none := by decide

/-! ### Single steps -/

/-- HCS falls at reset: TAKING_COMMAND (R161). -/
theorem test_hcsFall : (after (exec .hcsFall State.reset)).hpt.port = .takingCommand := by decide +kernel

/-- A whole NOP clocked in: DONE is left to clock out (R163). -/
theorem test_nop : (after (exec .nop (selected State.reset))).hpt.answer = [0x00] := by decide +kernel

/-- JOIN with the default record: the listening round is 12 + 8·4 (R148, R151). -/
theorem test_join : (after (exec .join (selected State.reset))).stc.listeningRound = some 44 := by decide +kernel

/-- Own number 12 with N of 8 is reported on 0x01 (R149). -/
theorem test_join_number_above_ladder :
    (after (exec .join (selected
      { State.reset with stc := { State.reset.stc with config := { ConfigRecord.defaults with ownNumber := 12 } } }))).hpt.answer =
      [0x07, 0x01] := by decide +kernel

/-- SET FIELD of a divisor of 4096 is BAD_PARAM (R179). -/
theorem test_setField_divisor_4096 :
    (after (exec (.setField 0x03 [0x10, 0x00]) (selected State.reset))).hpt.answer = [0x03] := by decide +kernel

/-- GET FIELD of the default pause hold: high byte first (R179). -/
theorem test_getField_pauseHold :
    (after (exec (.getField 0x0A) (selected State.reset))).hpt.answer = [0x00, 0x00, 0x40] := by decide +kernel

/-- SUBMIT to the own number is BAD_PARAM, though the queue is empty (R55). -/
theorem test_submit_to_self :
    (after (exec (.submit 0 0 []) (selected active))).hpt.answer = [0x03] := by decide +kernel

/-- SUBMIT takes handle 0 of an empty queue (R56). -/
theorem test_submit : (after (exec (.submit 5 1 [9]) (selected active))).hpt.answer = [0x00, 0x00] := by decide +kernel

/-- CANCEL of an entry on the line is TOO_LATE (R69). -/
theorem test_cancel_onLine :
    (after (exec (.cancel 0) (selected (withEntry (entryIn .onLine) active)))).hpt.answer = [0x06] := by decide +kernel

/-- QUERY ENTRY of a HELD entry with sequence 0 (R71, R180). -/
theorem test_queryEntry :
    (after (exec (.queryEntry 0) (selected (withEntry (entryIn .held) active)))).hpt.answer =
      [0x00, 2, 1, 1, 0, 0, 0] := by decide +kernel

/-- READ FRAME of an empty pool is EMPTY (R122). -/
theorem test_readFrame_empty : (after (exec .readFrame (selected active))).hpt.answer = [0x01] := by decide +kernel

/-- LEAVE withdraws a WAITING entry: FAILED, WITHDRAWN, then LEFT (R75, R158). -/
theorem test_leave :
    (after (exec .leave (selected (withEntry (entryIn .waiting) active)))).notices =
      [{ kind := .failed, subject := 0, detail := 3 }, { kind := .left, subject := 0, detail := 0 }] := by decide +kernel

/-- An unknown command byte is SPENT (R165). -/
theorem test_unknownCommand : (after (exec (.unknownCommand 0x02) (selected active))).hpt.port = .spent := by decide +kernel

/-- A character other than a lead in AWAIT_SYNC is noise and makes last sender UNKNOWN (R8, R32). -/
theorem test_noise :
    (after (exec (.characterComplete 0x41 true) (receiving { active with lastSender := some 3 }))).lastSender = none := by
  decide +kernel

/-- An ACK from station 3 is no claim on last sender (R31). -/
theorem test_ack_keeps_last_sender :
    (after (exec (.characterComplete ((frameBytes .ack 1 0 3 7 []).getLastD 0) true)
      (lastOf (frameBytes .ack 1 0 3 7 []) { active with lastSender := some 5 }))).lastSender = some 5 := by decide +kernel

/-- A BEACON from station 3 does set it (R31). -/
theorem test_beacon_sets_last_sender :
    (after (exec (.characterComplete ((frameBytes .beacon 0 255 3 0 []).getLastD 0) true)
      (lastOf (frameBytes .beacon 0 255 3 0 []) { active with lastSender := some 5 }))).lastSender = some 3 := by
  decide +kernel

/-- DATA to this station that fits is answered TAKEN (R80). -/
theorem test_data_taken :
    (after (exec (.characterComplete ((frameBytes .data 0 0 3 9 [1]).getLastD 0) true)
      (lastOf (frameBytes .data 0 0 3 9 [1]) active))).rpu.pending =
      some { dest := 3, seq := 9, result := .taken, sending := false } := by decide +kernel

/-- A truncated frame is counted at idle time 7 (R10). -/
theorem test_idleGapLimit :
    (after (exec .idleGapLimit { active with frx := .inFrame (newAssembly false) })).counters.badTruncated = 1 := by
  decide +kernel

/-- With last sender UNKNOWN, station 0's first opening is at G0 = 12, and not at 11 (R37, R38). -/
theorem test_first_slot :
    isSlotOpening ConfigRecord.defaults none 12 = true ∧ isSlotOpening ConfigRecord.defaults none 11 = false := by
  decide +kernel

/-- A slot opening at 12 puts the WAITING entry on the line (R58, R60). -/
theorem test_slotOpening :
    (after (exec (.slotOpening 12) (withEntry (entryIn .waiting) active))).txq.current = some (.entry 0) := by decide +kernel

/-- A different echo is a collision (R25). -/
theorem test_collision :
    (after (exec (.characterComplete 0x00 true)
      (let s := receiving (sendingFrame .data false .transmitQueue .opened .sending active)
       { s with lif := { s.lif with echo := [{ value := 0xA6, elapsed := 10 }] } }))).counters.collisions = 1 := by
  decide +kernel

/-- An own-marked frame in assembly when the own frame collides goes on as one that survives (R50; log entry 34). -/
theorem test_collision_marks_survivor :
    (after (exec (.characterComplete 0x30 true)
      (let s := receiving (sendingFrame .data false .transmitQueue .opened .sending active)
       { s with frx := .inFrame (newAssembly true),
                lif := { s.lif with echo := [{ value := 0x10, elapsed := 10 }] } }))).frx =
      .inFrame { newAssembly true with collided := true, kind := some 0x30, check := checkByte checkStart 0x30 } := by
  decide +kernel

/-- A silence timer at 1 expires at the next tick, and ends the pause with it (R100). -/
theorem test_tick_loses_peer :
    (after (exec .tick (withPeer 1 { pausedPeer with silence := some 1, pauseTimer := some 1 } active))).notices =
      [{ kind := .peerLost, subject := 1, detail := 0 }] := by decide +kernel

/-- A silence timer reloaded before its expiry does not expire (R101). -/
theorem test_reloaded_timer_goes_on :
    (after (exec (.silenceTimerExpiry 1) (refreshPresence 1 (withPeer 1 { pausedPeer with silence := some 1 } active)))
      ).ptb.records[(1 : Fin 32)].present = true := by decide +kernel

/-- Silence timer and pause timer at 1 expire together: the peer is lost, with the one notice PEER_LOST (R105). -/
theorem test_pause_expiry_with_silence :
    (after (exec (.pauseTimerExpiry 1)
      (withPeer 1 { pausedPeer with silence := some 1, pauseTimer := some 1 } active))).notices =
      [{ kind := .peerLost, subject := 1, detail := 0 }] := by decide +kernel

/-- A row of the table spells no word, so a word leaves the queue as it was (log entry 28). -/
theorem test_withFetchWord : State.reset.withFetchWord 16 0x2000 = State.reset := rfl

end Sys2Proof.Tests
end

