-- ==== Sys2Proof/Tests/Witnesses.lean ====
section
/-! SUPPORT. For each statement with hypotheses, concrete states and operands that meet them, clause by clause and at the
boundary values of their ranges. -/

namespace Sys2Proof.Tests

-- One theorem after another: kernel evaluations that wait for each other would each hold a thread.
set_option Elab.async false

open Sys2Proof.Machine

/-! ### The step and the host port -/

/-- The part held in reset. -/
def held : State := { State.reset with pins := { State.reset.pins with nresetLow := true } }

/-- The state with this idle time, counting. -/
def idleAt (n : Nat) (s : State) : State := { s with lif := { s.lif with idle := n, idleCounting := true } }

/-- The state with a transaction at this point. -/
def transaction (port : PortState) (taken : List Byte) (bits : List Bool) (answer : List Byte) (out : Nat) (s : State) :
    State :=
  { selected s with
    hpt := { s.hpt with port := port, taken := taken, bits := bits, answer := answer, outBits := out } }

theorem witness_EmptyQueueLetsBitTimePass :
    (held.pending = [] ∧ running held = false) ∧ (active.pending = [] ∧ running active = true) := by decide +kernel

theorem witness_EventNotRaisedChangesNothing :
    running held = false ∧ State.reset.lif.receiver ≠ .armed ∧ State.reset.lif.receiver ≠ .holding ∧
    (let s := { active with lif := { active.lif with receiver := .holding } }
     s.lif.receiver = .holding) ∧ (receiving active).lif.receiver = .inCharacter false 13 ∧
    active.ptb.records[31].silence = none ∧ active.ptb.records[0].pauseTimer = none ∧
    active.ptb.beaconTimer = none ∧ active.cgm.refreshTimer = none ∧ active.rxp.deliveryTimer = none ∧
    0 < (idleAt 1 active).lif.idle ∧ 7 < (idleAt 8 active).lif.idle ∧ 2 < (idleAt 3 active).lif.idle ∧
    (idleAt 9 active).stc.config.replyWindow < (idleAt 9 active).lif.idle ∧ running active = true ∧
    active.lif.transmitter = .off ∧ active.lif.transmitter ≠ .sending ∧ active.lif.own = none := by decide +kernel

/-- A timer that a tick event does not bring to 0 yet: at 2, and as a claim has just loaded it. -/
theorem witness_EventNotRaised_timer :
    (let s := withPeer 1 { pausedPeer with silence := some 2, pauseTimer := some 64 } active
     running s = true ∧ (∀ n, s.ptb.records[(1 : Fin 32)].silence = some n → 2 ≤ n) ∧
      ∀ n, s.ptb.records[(1 : Fin 32)].pauseTimer = some n → 2 ≤ n) ∧
    (∀ n, ({ active with ptb := { active.ptb with beaconTimer := some 2 } } : State).ptb.beaconTimer = some n → 2 ≤ n) ∧
    (∀ n, ({ active with cgm := { active.cgm with refreshTimer := some 2 } } : State).cgm.refreshTimer = some n → 2 ≤ n) ∧
    (∀ n, ({ active with rxp := { active.rxp with deliveryTimer := some 2 } } : State).rxp.deliveryTimer = some n → 2 ≤ n) := by
  refine ⟨⟨by decide +kernel, ?_, ?_⟩, ?_, ?_, ?_⟩ <;> intro n h <;> cases h <;> decide

theorem witness_EventNotRaised_receiver :
    (∀ lde d, State.reset.lif.receiver ≠ .inCharacter lde d) ∧ ∀ b, active.lif.receiver ≠ .unarmed b :=
  ⟨fun _ _ h => (by cases h), fun _ h => (by cases h)⟩

theorem witness_EventNotRaised_sending :
    (let s := sendingFrame .data false .transmitQueue .opened .sending active
     s.lif.toSend = [] ∧ s.lif.transmitter = .sending ∧
      s.lif.own = some { kind := .data, joining := false, requester := .transmitQueue, comparison := .opened }) ∧
    (let s := sendingFrame .data false .transmitQueue .collided .trailing active
     s.lif.transmitter ≠ .sending ∧
      s.lif.own = some { kind := .data, joining := false, requester := .transmitQueue, comparison := .collided }) := by
  decide +kernel

theorem witness_CommandNotTakenChangesNothing :
    Instr.nop.hostCommand = some .nop ∧ portTakes .nop State.reset = false := by decide +kernel

theorem witness_CommandBytesReadBack :
    (HostCommand.submit 255 60 (List.replicate 60 0xFF)).wellFormed = true ∧ (HostCommand.submit 1 61 []).wellFormed = true ∧
    (HostCommand.setField 0x13 [1, 255, 0, 0]).wellFormed = true ∧ (HostCommand.setField 0x0F []).wellFormed = true ∧
    (HostCommand.unknown 0xFF).wellFormed = true := by decide +kernel

/-- GET FIELD 3 with its command byte and two bits taken. -/
def halfTaken : State := transaction .takingParameters [0x11] [false, false] [] 0 State.reset

theorem witness_ClockedBitsExecuteCommand :
    (Instr.getField 3).hostCommand = some (.getField 3) ∧ portTakes (.getField 3) halfTaken = true ∧ PortLaw halfTaken ∧
    AttnLaw halfTaken ∧
    bitsOfBytes (commandBytes (.getField 3)) =
      bitsOfBytes halfTaken.hpt.taken ++ halfTaken.hpt.bits ++ [false, false, false, false, true, true] :=
  ⟨rfl, by decide +kernel,
    ⟨by decide +kernel, by decide +kernel, by decide +kernel, by decide +kernel, by decide +kernel, by decide +kernel,
      by decide +kernel, by decide +kernel, by decide +kernel⟩,
    by unfold AttnLaw; decide +kernel, by decide +kernel⟩

theorem witness_HckEdgesClockThePort :
    portLive held = false ∧ State.reset.hpt.port = .deselected ∧
    (let s := transaction .takingCommand [] [false, false, true, true, false, false] [] 0 State.reset
     portLive s = true ∧ s.hpt.port = .takingCommand ∧ s.hpt.bits.length < 7) ∧
    (let s := transaction .takingCommand [] [false, false, true, true, false, false, false] [] 0 State.reset
     s.hpt.bits.length = 7 ∧ (0x30 : Byte) = byteOf (numberOfBits (s.hpt.bits ++ [false])) ∧
      readCommand (s.hpt.taken ++ [0x30]) = none) ∧
    (let s := transaction .spent [0x00] [] [] 0 State.reset
     portLive s = true ∧ s.hpt.port = .spent ∧ s.hpt.answer = []) ∧
    (let s := transaction .answering [0x00] [] [0x00] 6 State.reset
     s.hpt.port = .answering ∧ s.hpt.answer = 0x00 :: [] ∧ s.hpt.outBits < 7) ∧
    (let s := transaction .answering [0x00] [] [0x00] 7 State.reset
     s.hpt.answer = 0x00 :: [] ∧ s.hpt.outBits = 7) := by decide +kernel

theorem witness_HcsEdgesBeginAndEndTransactions :
    (State.reset.pins.hcsHigh = true ∧ portLive State.reset = true ∧ State.reset.hpt.port = .deselected) ∧
    (held.pins.hcsHigh = true ∧ portLive held = false) ∧
    (let s := selected State.reset
     s.pins.hcsHigh = false ∧ portLive s = true ∧ s.hpt.softResetDue = false) ∧
    (let s := selected held
     s.pins.hcsHigh = false ∧ portLive s = false) := by decide +kernel

theorem witness_SoftResetTakesEffectAtHcsRise :
    portTakes .softReset (selected active) = true ∧
    (let s := after (exec .softReset (selected active))
     s.pins.hcsHigh = false ∧ portLive s = true ∧ s.hpt.softResetDue = true) := by decide +kernel

/-! ### Host commands -/

theorem witness_StatusAndPeerReportsChangeNothing :
    portTakes .nop (selected active) = true ∧ portTakes .readStatus (selected active) = true ∧
    (portTakes (.readPeer 32) (selected active) = true ∧ 32 ≤ (32 : Byte).toNat) ∧
    (portTakes (.readPeer 31) (selected active) = true ∧ (31 : Byte) = byteOf (31 : Fin 32).val) := by decide +kernel

theorem witness_UnknownCommandIsSpent : portTakes (.unknown 0x02) (selected active) = true := by decide +kernel

theorem witness_SetAndGetFieldServeTheRecord :
    (portTakes (.setField 0x01 [3]) (selected active) = true ∧ (selected active).stc.station ≠ .unjoined) ∧
    (portTakes (.setField 0x0F []) (selected State.reset) = true ∧ (selected State.reset).stc.station = .unjoined ∧
      fieldOfId 0x0F = none) ∧
    (portTakes (.setField 0x01 [32]) (selected State.reset) = true ∧ fieldOfId 0x01 = some .ownNumber ∧
      writeField (selected State.reset).stc.config .ownNumber [32] = none) ∧
    (portTakes (.setField 0x01 [31]) (selected State.reset) = true ∧
      writeField (selected State.reset).stc.config .ownNumber [31] =
        some { ConfigRecord.defaults with ownNumber := 31 }) ∧
    (portTakes (.setField 0x0D [1]) (selected State.reset) = true ∧ fieldOfId 0x0D = some .deliveryTimeout ∧
      writeField (selected State.reset).stc.config .deliveryTimeout [1] =
        some { ConfigRecord.defaults with deliveryTimeout := 1 }) ∧
    (portTakes (.getField 0x13) (selected active) = true ∧ fieldOfId 0x13 = some (.watch 3)) ∧
    (portTakes (.getField 0x14) (selected active) = true ∧ fieldOfId 0x14 = none) := by decide +kernel

theorem witness_FieldsHaveTheirRanges :
    (FieldId.divisor ≠ .attnMask ∧ ([0x0F, 0xFF] : List Byte).length = FieldId.divisor.bytes ∧
      writeField ConfigRecord.defaults .divisor [0x0F, 0xFF] = some { ConfigRecord.defaults with divisor := 4095 } ∧
      FieldId.highMark ≠ .divisor) ∧ ConfigLaw ConfigRecord.defaults := by
  refine ⟨by decide +kernel, ?_⟩
  constructor <;> decide +kernel

/-- The state with this configuration record. -/
def configured (f : ConfigRecord → ConfigRecord) (s : State) : State := { s with stc := { s.stc with config := f s.stc.config } }

theorem witness_JoinChecksAndEntersListening :
    (portTakes .join (selected active) = true ∧ (selected active).stc.station ≠ .unjoined) ∧
    (let s := configured (fun c => { c with ownNumber := 8 }) (selected State.reset)
     portTakes .join s = true ∧ s.stc.station = .unjoined ∧ s.stc.config.ladderSize ≤ s.stc.config.ownNumber) ∧
    (let s := configured (fun c => { c with ownNumber := 7, lowMark := 36 }) (selected State.reset)
     portTakes .join s = true ∧ s.stc.config.ownNumber < s.stc.config.ladderSize ∧
      s.stc.config.highMark ≤ s.stc.config.lowMark) ∧
    (let s := configured (fun c => { c with ownNumber := 7, lowMark := 35 }) (selected State.reset)
     portTakes .join s = true ∧ s.stc.station = .unjoined ∧ s.stc.config.ownNumber < s.stc.config.ladderSize ∧
      s.stc.config.lowMark < s.stc.config.highMark) := by decide +kernel

theorem witness_LeaveWithdrawsTheQueue :
    (portTakes .leave (selected State.reset) = true ∧ (selected State.reset).stc.station = .unjoined) ∧
    (let s := selected (withEntry (entryIn .onLine) active)
     portTakes .leave s = true ∧ s.stc.station = .active ∧ s.txq.entries[(0 : Fin 16)] = some (entryIn .onLine)) ∧
    (let s := selected (withEntry (entryIn .held) (stationIn .halted active))
     portTakes .leave s = true ∧ s.stc.station = .halted ∧
      ∀ h : Fin 16, s.txq.entries[h] = none ∨ s.txq.entries[h] = some (entryIn .held)) := by decide +kernel

theorem witness_SubmitJudgedInOrder :
    (portTakes (.submit 0 61 []) (selected State.reset) = true ∧ (selected State.reset).stc.station = .unjoined) ∧
    (let s := selected active
     portTakes (.submit 0 0 []) s = true ∧ s.stc.station = .active ∧ (0 : Byte).toNat = s.stc.config.ownNumber) ∧
    (let s := selected active
     portTakes (.submit 8 0 []) s = true ∧ s.stc.config.ladderSize ≤ (8 : Byte).toNat ∧ (8 : Byte) ≠ 255) ∧
    (portTakes (.submit 7 61 []) (selected active) = true ∧ 60 < (61 : Byte).toNat) ∧
    (let s := { selected active with
       txq := { active.txq with entries := Vector.replicate 16 (some (entryIn (.complete .sentTaken))) } }
     portTakes (.submit 7 0 []) s = true ∧ (7 : Byte).toNat ≠ s.stc.config.ownNumber ∧
      (7 : Byte).toNat < s.stc.config.ladderSize ∧ (0 : Byte).toNat ≤ 60 ∧ ∀ h : Fin 16, s.txq.entries[h] ≠ none) ∧
    (let s := selected (withEntry (entryIn .held) active)
     portTakes (.submit 255 60 (List.replicate 60 1)) s = true ∧ s.stc.station = .active ∧
      (255 : Byte).toNat ≠ s.stc.config.ownNumber ∧ (60 : Byte).toNat ≤ 60 ∧ s.txq.entries[(1 : Fin 16)] = none ∧
      ∀ h' : Fin 16, h' < 1 → s.txq.entries[h'] ≠ none) := by decide +kernel

theorem witness_CancelAndQueryByEntryState :
    (portTakes (.cancel 16) (selected active) = true ∧ portTakes (.queryEntry 16) (selected active) = true ∧
      15 < (16 : Byte).toNat) ∧
    (portTakes (.cancel 15) (selected active) = true ∧ (15 : Byte) = byteOf (15 : Fin 16).val ∧
      (selected active).txq.entries[(15 : Fin 16)] = none) ∧
    (let s := selected (withEntry (entryIn .waiting) active)
     portTakes (.cancel 0) s = true ∧ (0 : Byte) = byteOf (0 : Fin 16).val ∧
      s.txq.entries[(0 : Fin 16)] = some (entryIn .waiting)) ∧
    (let s := selected (withEntry (entryIn .awaitingReply) active)
     portTakes (.cancel 0) s = true ∧ s.txq.entries[(0 : Fin 16)] = some (entryIn .awaitingReply)) ∧
    (let s := selected (withEntry (entryIn (.complete .sentTaken)) active)
     portTakes (.queryEntry 0) s = true ∧
      s.txq.entries[(0 : Fin 16)] = some (entryIn (.complete .sentTaken))) := by decide +kernel

/-- A record of one payload byte from station 3. -/
def recordOne (watch : Option (Fin 4)) : Record :=
  { source := 3, broadcast := false, seq := 9, payload := [1], watch := watch }

/-- The state with these lanes, each record of one block. -/
def withLanes (urgent normal : List Record) (s : State) : State :=
  { s with rxp := { s.rxp with urgent := urgent, normal := normal, fill := urgent.length + normal.length } }

theorem witness_ReadFrameTakesTheHead :
    (portTakes .readFrame (selected active) = true ∧ (selected active).rxp.urgent = [] ∧ (selected active).rxp.normal = []) ∧
    (let s := selected (withLanes [recordOne (some 0)] [recordOne none] active)
     portTakes .readFrame s = true ∧ s.rxp.urgent = recordOne (some 0) :: []) ∧
    (let s := selected (withLanes [] [recordOne none] active)
     portTakes .readFrame s = true ∧ s.rxp.urgent = [] ∧ s.rxp.normal = recordOne none :: []) := by decide +kernel

theorem witness_FlushPoolEmptiesThePool :
    (portTakes .flushPool (selected active) = true ∧ (selected active).rxp.urgent = [] ∧
      (selected active).rxp.normal = []) ∧
    (let s := selected (withLanes [] [recordOne none] active)
     portTakes .flushPool s = true ∧ s.rxp.normal ≠ []) := by decide +kernel

/-- A completion notice of handle 15. -/
def sentNotice : Notice := { kind := .sent, subject := 15, detail := 1 }

/-- A LEFT notice. -/
def leftNotice : Notice := { kind := .left, subject := 0, detail := 0 }

theorem witness_ReadNoticeAndReadCounters :
    (portTakes .readNotice (selected active) = true ∧ (selected active).notices = []) ∧
    (let s := { selected active with notices := [leftNotice] }
     portTakes .readNotice s = true ∧ s.notices = leftNotice :: [] ∧ leftNotice.kind ≠ .sent ∧ leftNotice.kind ≠ .failed) ∧
    (let s := { selected active with notices := [sentNotice] }
     portTakes .readNotice s = true ∧ s.notices = sentNotice :: [] ∧ sentNotice.kind = .sent ∧
      sentNotice.subject = byteOf (15 : Fin 16).val) ∧
    (portTakes .readCounters (selected active) = true ∧ (selected active).counters = Counters.zero) := by decide +kernel

/-! ### Reset and the supplies -/

/-- The part with VDD out of range. -/
def unpowered : State := { State.reset with pins := { State.reset.pins with vddOk := false } }

/-- The part with VIO out of range. -/
def withoutVio : State := { State.reset with pins := { State.reset.pins with vioOk := false } }

theorem witness_HardwareResetAndRelease :
    running active = true ∧ exec .hardwareReset active = .next (after (exec .hardwareReset active)) ∧
    exec .vddOutOfRange active = .next (after (exec .vddOutOfRange active)) ∧
    (unpowered.pins.nresetLow = false ∧ unpowered.pins.vddOk = false) ∧
    (held.pins.nresetLow = true ∧ held.pins.vddOk = true) ∧
    (let s := { held with pins := { held.pins with vddOk := false } }
     s.pins.nresetLow = true ∧ s.pins.vddOk = false) ∧
    active.pins.nresetLow = false ∧ active.pins.vddOk = true :=
  ⟨by decide +kernel, rfl, rfl, by decide +kernel, by decide +kernel, by decide +kernel, by decide +kernel,
    by decide +kernel⟩

theorem witness_VioEndsTheTransaction :
    (active.pins.vioOk = true ∧ running active = true ∧ active.hpt.softResetDue = false) ∧
    (let s := after (exec .softReset (selected active))
     s.pins.vioOk = true ∧ running s = true ∧ s.hpt.softResetDue = true) ∧
    (held.pins.vioOk = true ∧ running held = false) ∧ (withoutVio.pins.vioOk = false ∧ running withoutVio = true) ∧
    (let s := { withoutVio with pins := { withoutVio.pins with nresetLow := true } }
     s.pins.vioOk = false ∧ running s = false) := by decide +kernel

/-! ### Receiving -/

theorem witness_ReceiverFollowsTheLine :
    running active = true ∧ active.lif.receiver = .armed ∧
    (receiving active).lif.receiver = .inCharacter false 13 ∧ running (receiving active) = true ∧
    (let s := { active with lif := { active.lif with receiver := .holding } }
     running s = true ∧ s.lif.receiver = .holding) ∧
    running State.reset = true ∧ State.reset.lif.receiver = .unarmed true ∧
    (after (exec .startBit State.reset)).lif.receiver = .unarmed false := by decide +kernel

/-- A state with no own frame compares nothing. -/
theorem notComparing_of_none {l : LineInterface} (h : l.own = none) : NotComparing l := by
  intro o ho
  rw [h] at ho
  cases ho

/-- An assembly with these fields taken. -/
def partly (own : Bool) (bytes : List Byte) : Assembly := (assembleAll (newAssembly own) bytes).getD (newAssembly own)

/-- A state receiving a character of this assembly. -/
def inFrame (a : Assembly) : State := { receiving active with frx := .inFrame a }

/-- The characters between lead and last of an ACK from station 3. -/
def ackMiddle : List Byte := (frameBytes .ack 1 0 3 7 []).tail.dropLast

/-- Its last character. -/
def ackLast : Byte := (frameBytes .ack 1 0 3 7 []).getLastD 0

theorem witness_CharacterAtFrameReceiver :
    (running (receiving active) = true ∧ NotComparing (receiving active).lif ∧
      (receiving active).lif.receiver = .inCharacter false 13 ∧ (receiving active).frx = .awaitSync ∧
      ∀ w, (receiving active).rpu.wait = some w → w.candidate = true) ∧
    (∀ a, running (inFrame a) = true ∧ NotComparing (inFrame a).lif ∧
      (inFrame a).lif.receiver = .inCharacter false 13 ∧ (inFrame a).frx = .inFrame a ∧ (inFrame a).rpu.wait = none) ∧
    takeCharacter (newAssembly false) 0x10 true = .goesOn (partly false [0x10]) ∧
    takeCharacter (newAssembly true) 0x60 true = .fails .kind ∧ (newAssembly true).ownMark = true ∧
    takeCharacter (partly false ackMiddle) (ackLast + 1) true = .failsAtEnd .check ∧
    (partly false ackMiddle).ownMark = false ∧
    takeCharacter (partly true ackMiddle) ackLast true = .passes ∧ (partly true ackMiddle).ownMark = true ∧
    (partly true ackMiddle).collided = false ∧
    (let s := { receiving active with frx := .draining }
     running s = true ∧ s.frx = .draining) := by
  refine ⟨⟨rfl, notComparing_of_none rfl, rfl, rfl, fun w h => by cases h⟩,
    fun a => ⟨rfl, notComparing_of_none rfl, rfl, rfl, rfl⟩, ?_⟩
  decide +kernel

theorem witness_ValidityChecksInOrder :
    (newAssembly false).kind = none ∧
    (let a := partly false [0x10]
     a.kind = some 0x10 ∧ a.dest = none) ∧
    (let a := partly false [0x10, 0]
     a.dest = some 0 ∧ a.source = none) ∧
    (let a := partly false [0x10, 0, 3]
     a.source = some 3 ∧ a.seq = none) ∧
    (let a := partly false [0x10, 32, 3, 9]
     a.kind = some 0x10 ∧ a.dest = some 32 ∧ a.source = some 3 ∧ a.seq = some 9 ∧ a.length = none) ∧
    (let a := partly false [0x10, 31, 3, 9, 60]
     a.kind = some 0x10 ∧ a.dest = some 31 ∧ a.source = some 3 ∧ a.seq = some 9 ∧ a.length = some 60 ∧
      a.toCome = 62) := by decide +kernel

theorem witness_BuiltFrameIsHeardGood :
    (15 ≤ 15 ∧ (31 : Byte).toNat ≤ 31 ∧ (List.replicate 60 (0xA6 : Byte)).length ≤ 60 ∧ FrameKind.data = .data) ∧
    (0 ≤ 15 ∧ (255 : Byte) = 255 ∧ ([] : List Byte).length ≤ 60 ∧ FrameKind.beacon ≠ .data) := by decide +kernel

/-! ### Good frames -/

/-- A check that EndsGoodFrame holds. -/
def endsGood (value : Byte) (f : GoodFrame) (s : State) : Bool :=
  running s && s.lif.own.isNone
    && (match s.lif.receiver with | .inCharacter _ _ => true | _ => false)
    && (match s.frx with
        | .inFrame a => !a.ownMark && takeCharacter a value true = .passes && goodFrameOf a = some f
        | _ => false)

theorem endsGood_sound {value : Byte} {f : GoodFrame} {s : State} (h : endsGood value f s = true) :
    EndsGoodFrame value f s := by
  simp only [endsGood, Bool.and_eq_true] at h
  obtain ⟨⟨⟨h1, h2⟩, h3⟩, h4⟩ := h
  refine ⟨h1, notComparing_of_none (by simpa using h2), ?_, ?_⟩
  · cases hr : s.lif.receiver <;> rw [hr] at h3 <;> first | exact ⟨_, _, rfl⟩ | simp at h3
  · cases hf : s.frx <;> rw [hf] at h4 <;> first | (simp at h4; exact ⟨_, rfl, h4.1.1, h4.1.2, h4.2⟩) | simp at h4

/-- The good frame of these fields. -/
def frameOf (kind : FrameKind) (modifier : Nat) (dest source seq : Byte) (payload : List Byte) : GoodFrame :=
  { kind := kind, modifier := modifier, dest := dest, source := source, seq := seq, payload := payload }

/-- The last character of that frame. -/
def lastByte (f : GoodFrame) : Byte := (frameBytes f.kind f.modifier f.dest f.source f.seq f.payload).getLastD 0

/-- The state while the last character of that frame is being received. -/
def hearing (f : GoodFrame) (s : State) : State := lastOf (frameBytes f.kind f.modifier f.dest f.source f.seq f.payload) s

/-- That frame ends good at the state in which its last character is being received. -/
abbrev HeardAt (f : GoodFrame) (s : State) : Prop := EndsGoodFrame (lastByte f) f (hearing f s)

theorem witness_GoodFrameClaims :
    HeardAt (frameOf .ack 1 2 3 7 []) active ∧ HeardAt (frameOf .beacon 0 255 255 0 []) active ∧
    HeardAt (frameOf .data 0 2 31 7 [1]) (stationIn .unjoined active) ∧
    HeardAt (frameOf .data 0 2 0 7 [1]) (stationIn .listening active) ∧
    HeardAt (frameOf .pause 0 255 8 0 []) active ∧ HeardAt (frameOf .resume 0 255 1 0 []) (stationIn .unjoined active) ∧
    HeardAt (frameOf .data 0 0 0 7 [1]) (stationIn .unjoined active) ∧
    (let s := hearing (frameOf .pause 0 255 8 0 []) active
     FrameKind.pause ≠ .data ∧ s.stc.config.ladderSize ≤ (8 : Byte).toNat ∧ (8 : Byte) ≠ byteOf s.stc.config.ownNumber) ∧
    (let s := hearing (frameOf .data 0 2 31 7 [1]) (stationIn .unjoined active)
     s.rpu.wait = none ∧ s.stc.station = .unjoined ∧ (2 : Byte) ≠ byteOf s.stc.config.ownNumber) ∧
    (let s := hearing (frameOf .data 0 2 0 7 [1]) (stationIn .listening active)
     s.stc.station ≠ .unjoined ∧ (0 : Byte) = byteOf s.stc.config.ownNumber) ∧
    (3 : Byte) ≠ byteOf (hearing (frameOf .ack 1 2 3 7 []) active).stc.config.ownNumber :=
  ⟨endsGood_sound (by decide +kernel), endsGood_sound (by decide +kernel), endsGood_sound (by decide +kernel),
    endsGood_sound (by decide +kernel), endsGood_sound (by decide +kernel), endsGood_sound (by decide +kernel),
    endsGood_sound (by decide +kernel), by decide +kernel, by decide +kernel, by decide +kernel, by decide +kernel⟩

/-- The state while the last character of a frame is being received that survived a collision with the station's own. -/
def surviving (f : GoodFrame) (s : State) : State :=
  let t := hearing f s
  { t with frx := match t.frx with
    | .inFrame a => .inFrame { a with ownMark := true, collided := true }
    | r => r }

theorem witness_GoodFrameClaims_survivor :
    (let f := frameOf .pause 0 255 0 0 []
     let s := surviving f active
     running s = true ∧ s.lif.own = none ∧ s.lif.receiver = .inCharacter false 13 ∧
      s.rpu.wait = none ∧ s.stc.station ≠ .unjoined ∧ f.source = byteOf s.stc.config.ownNumber) ∧
    EndsSurvivingFrame (lastByte (frameOf .pause 0 255 0 0 [])) (frameOf .pause 0 255 0 0 [])
      (surviving (frameOf .pause 0 255 0 0 []) active) :=
  ⟨by decide +kernel, by decide +kernel, notComparing_of_none rfl, ⟨_, _, rfl⟩, _, rfl, by decide +kernel, by decide +kernel,
    by decide +kernel, by decide +kernel⟩

theorem witness_PauseAndResumeClaims :
    HeardAt (frameOf .pause 0 255 7 0 []) active ∧ HeardAt (frameOf .pause 0 255 7 0 []) (withPeer 7 pausedPeer active) ∧
    HeardAt (frameOf .resume 0 255 1 0 []) (withPeer 1 pausedPeer active) ∧ HeardAt (frameOf .beacon 1 255 1 0 []) active ∧
    (let s := hearing (frameOf .pause 0 255 7 0 []) active
     s.rpu.wait = none ∧ s.stc.station ≠ .unjoined ∧ (7 : Byte) = byteOf (7 : Fin 32).val ∧
      (7 : Fin 32).val < s.stc.config.ladderSize ∧ (7 : Fin 32).val ≠ s.stc.config.ownNumber ∧
      s.stc.config.ownNumber ≤ 31 ∧ s.ptb.records[(7 : Fin 32)].paused = false) ∧
    (hearing (frameOf .resume 0 255 1 0 []) (withPeer 1 pausedPeer active)).ptb.records[(1 : Fin 32)].paused = true :=
  ⟨endsGood_sound (by decide +kernel), endsGood_sound (by decide +kernel), endsGood_sound (by decide +kernel),
    endsGood_sound (by decide +kernel), by decide +kernel, by decide +kernel⟩

/-- The state with this fill. -/
def filled (n : Nat) (s : State) : State := { s with rxp := { s.rxp with fill := n } }

/-- A DATA frame of 33 payload bytes, two blocks, to this station from station 3. -/
def twoBlocks : GoodFrame := frameOf .data 0 0 3 9 (List.replicate 33 1)

theorem witness_AcceptanceDecision :
    HeardAt twoBlocks (stationIn .halted active) ∧ HeardAt twoBlocks (filled 46 active) ∧ HeardAt twoBlocks (filled 47 active) ∧
    HeardAt twoBlocks (withPeer 3 { Peer.cleared with lastReceived := some 9 } active) ∧
    (let s := hearing twoBlocks (filled 46 active)
     s.rpu.wait = none ∧ twoBlocks.kind = .data ∧ twoBlocks.dest = byteOf s.stc.config.ownNumber ∧ twoBlocks.dest ≠ 255 ∧
      twoBlocks.source ≠ byteOf s.stc.config.ownNumber ∧ s.stc.station = .active ∧
      (∀ p : Fin 32, s.ptb.records[p].lastReceived = none) ∧ s.rxp.fill + 2 ≤ 48 ∧ 32 < twoBlocks.payload.length ∧
      twoBlocks.source = byteOf (3 : Fin 32).val ∧ (3 : Fin 32).val < s.stc.config.ladderSize) ∧
    48 < (hearing twoBlocks (filled 47 active)).rxp.fill + 2 ∧
    (hearing twoBlocks (withPeer 3 { Peer.cleared with lastReceived := some 9 } active)).ptb.records[(3 : Fin 32)].lastReceived
      = some twoBlocks.seq ∧
    (HeardAt { twoBlocks with source := 8 } active ∧
      (hearing { twoBlocks with source := 8 } active).stc.config.ladderSize ≤ (8 : Byte).toNat) ∧
    (hearing twoBlocks (stationIn .halted active)).stc.station = .halted :=
  ⟨endsGood_sound (by decide +kernel), endsGood_sound (by decide +kernel), endsGood_sound (by decide +kernel),
    endsGood_sound (by decide +kernel), by decide +kernel, by decide +kernel, by decide +kernel,
    ⟨endsGood_sound (by decide +kernel), by decide +kernel⟩, by decide +kernel⟩

/-- A broadcast of 32 payload bytes, one block, from station 200. -/
def oneBlockToAll : GoodFrame := frameOf .data 0 255 200 9 (List.replicate 32 1)

theorem witness_BroadcastAdmission :
    HeardAt oneBlockToAll (filled 47 active) ∧ HeardAt oneBlockToAll (filled 48 active) ∧
    HeardAt oneBlockToAll (stationIn .unjoined active) ∧
    (let s := hearing oneBlockToAll (filled 47 active)
     s.rpu.wait = none ∧ oneBlockToAll.kind = .data ∧ oneBlockToAll.dest = 255 ∧ s.stc.config.ownNumber ≤ 31 ∧
      oneBlockToAll.source ≠ byteOf s.stc.config.ownNumber ∧ s.stc.station = .active ∧
      oneBlockToAll.payload.length ≤ 32 ∧ s.rxp.fill + 1 ≤ 48) ∧
    48 < (hearing oneBlockToAll (filled 48 active)).rxp.fill + 1 ∧
    (hearing oneBlockToAll (stationIn .unjoined active)).stc.station = .unjoined :=
  ⟨endsGood_sound (by decide +kernel), endsGood_sound (by decide +kernel), endsGood_sound (by decide +kernel),
    by decide +kernel, by decide +kernel, by decide +kernel⟩

theorem witness_LaneChoice :
    (recordOne none).watch = none ∧ (recordOne (some 3)).watch = some 3 := by decide +kernel

/-! ### Replies -/

theorem witness_AckEndsReplyWait :
    HeardAt (frameOf .ack 1 0 1 0 []) (waiting true active) ∧ HeardAt (frameOf .ack 3 0 1 0 []) (waiting true active) ∧
    HeardAt (frameOf .ack 4 0 1 0 []) (waiting true active) ∧
    HeardAt (frameOf .ack 3 0 1 0 []) (stationIn .leaving (waiting true active)) ∧
    HeardAt (frameOf .data 0 0 7 0 [1]) (waiting true active) ∧ HeardAt (frameOf .ack 1 0 0 0 []) (waiting true active) ∧
    (let s := hearing (frameOf .ack 1 0 0 0 []) (waiting true active)
     s.stc.station ≠ .unjoined ∧ (0 : Byte) = byteOf s.stc.config.ownNumber ∧ (1 : Byte) ≠ 0) ∧
    (hearing (frameOf .ack 3 0 1 0 []) (stationIn .leaving (waiting true active))).stc.station = .leaving ∧
    (let s := hearing (frameOf .ack 3 0 1 0 []) (waiting true active)
     s.rpu.wait = some { handle := 0, dest := 1, seq := 0, candidate := true } ∧
      s.txq.entries[(0 : Fin 16)] = some (entryIn .awaitingReply) ∧ (entryIn .awaitingReply).dest = 1 ∧
      s.stc.station ≠ .leaving ∧ s.stc.station ≠ .unjoined ∧ (1 : Byte) = byteOf (1 : Fin 32).val ∧
      (1 : Fin 32).val < s.stc.config.ladderSize ∧ (1 : Fin 32).val ≠ s.stc.config.ownNumber ∧
      s.stc.config.ownNumber ≤ 31 ∧ (1 : Byte) ≠ byteOf s.stc.config.ownNumber ∧ (0 : Byte) = byteOf s.stc.config.ownNumber) :=
  ⟨endsGood_sound (by decide +kernel), endsGood_sound (by decide +kernel), endsGood_sound (by decide +kernel),
    endsGood_sound (by decide +kernel), endsGood_sound (by decide +kernel), endsGood_sound (by decide +kernel),
    by decide +kernel, by decide +kernel, by decide +kernel⟩

theorem witness_ReplyWaitEndsWithoutReply :
    (let s := idleAt 8 (waiting false active)
     running s = true ∧ s.rpu.wait = some { handle := 0, dest := 1, seq := 0, candidate := false } ∧
      s.txq.entries[(0 : Fin 16)] = some (entryIn .awaitingReply) ∧ s.lif.idleCounting = true ∧
      1 ≤ s.stc.config.replyWindow ∧ s.lif.idle ≤ s.stc.config.replyWindow ∧ s.stc.station ≠ .leaving) ∧
    (let s := stationIn .leaving (idleAt 8 (waiting false active))
     s.stc.station = .leaving ∧ s.lif.idle ≤ s.stc.config.replyWindow) ∧
    (idleAt 8 (waiting true active)).rpu.wait = some { handle := 0, dest := 1, seq := 0, candidate := true } ∧
    (let s := receiving (waiting false active)
     s.lif.receiver = .inCharacter false 13 ∧ NotComparing s.lif ∧ s.frx = .awaitSync) ∧
    (let s := { idleAt 7 (stationIn .leaving (waiting true active)) with frx := .inFrame (newAssembly false) }
     s.lif.idleCounting = true ∧ s.lif.idle ≤ 7 ∧ s.frx = .inFrame (newAssembly false) ∧ s.stc.station = .leaving) ∧
    (let s := { receiving (waiting true active) with frx := .inFrame (newAssembly false) }
     s.frx = .inFrame (newAssembly false) ∧ (newAssembly false).ownMark = false ∧
      takeCharacter (newAssembly false) 0x00 true = .fails .kind) :=
  ⟨by decide +kernel, by decide +kernel, by decide +kernel, ⟨rfl, notComparing_of_none rfl, rfl⟩,
    by decide +kernel, by decide +kernel⟩

/-- The state with a reply pending. -/
def owing (sending : Bool) (result : ReplyResult) (s : State) : State :=
  { s with rpu := { s.rpu with pending := some { dest := 3, seq := 9, result := result, sending := sending } } }

theorem witness_IdleEventsAct :
    (let s := idleAt 7 active
     running s = true ∧ s.lif.idleCounting = true ∧ s.lif.idle ≤ 7 ∧ s.frx = .awaitSync ∧ s.rpu.wait = none) ∧
    (let s := idleAt 8 active
     s.rpu.wait = none ∧ 1 ≤ s.stc.config.replyWindow ∧ s.lif.idle ≤ s.stc.config.replyWindow) ∧
    ({ idleAt 7 active with frx := .draining } : State).frx = .draining ∧
    (newAssembly true).ownMark = true ∧ (newAssembly false).ownMark = false ∧
    (let s := idleAt 2 (owing false .full active)
     s.lif.idle ≤ 2 ∧ s.rpu.pending = some { dest := 3, seq := 9, result := .full, sending := false } ∧
      s.stc.station = .active ∧ s.lif.transmitter = .off ∧ s.lif.own = none) ∧
    (idleAt 2 (owing false .taken (stationIn .halted active))).stc.station = .halted ∧
    (sendingFrame .data false .transmitQueue .opened .off (idleAt 2 (owing false .taken active))).lif.own ≠ none ∧
    (idleAt 2 active).rpu.pending = none ∧
    (let s := { idleAt 44 active with stc := { active.stc with station := .listening, listeningRound := some 44 } }
     1 ≤ 44 ∧ s.lif.idle ≤ 44 ∧ s.stc.station = .listening ∧ s.stc.listeningRound = some 44) ∧
    (idleAt 44 active).stc.station ≠ .listening := by decide +kernel

/-! ### Slot openings -/

theorem witness_SlotSchedule : 1 ≤ ConfigRecord.defaults.ladderSize ∧ 1 ≤ ConfigRecord.defaults.slotWidth := by decide

theorem witness_SlotGivesAnnouncementOrBeacon :
    (let s := idleAt 12 { active with cgm := { active.cgm with announcement := some .pause } }
     running s = true ∧ s.lif.idleCounting = true ∧ 1 ≤ 12 ∧ s.lif.idle ≤ 12 ∧
      isSlotOpening s.stc.config s.lastSender 12 = true ∧ s.lif.transmitter = .off ∧ s.lif.own = none ∧
      s.txq.current = none ∧ s.stc.station = .active ∧ s.cgm.announcement = some .pause) ∧
    (let s := { active with cgm := { active.cgm with announcement := some .resume } }
     s.stc.station = .active ∧ s.cgm.announcement = some .resume) ∧
    (let s := { active with txq := { active.txq with beacon := .plain } }
     s.cgm.announcement = none ∧ s.txq.beacon = .plain) ∧
    (let s := stationIn .announcing { active with txq := { active.txq with beacon := .joining } }
     s.stc.station = .announcing ∧ s.txq.beacon = .joining) ∧
    (stationIn .announcing active).txq.beacon ≠ .joining ∧
    isSlotOpening active.stc.config active.lastSender 13 = false ∧
    isSlotOpening active.stc.config active.lastSender 44 = true := by decide +kernel

/-- Every slot but handle 0's is FREE. -/
theorem onlyEntry {x : Entry} {s : State} (hs : ∀ h : Fin 16, s.txq.entries[h] = none) {h : Fin 16} {e : Entry}
    (he : (withEntry x s).txq.entries[h] = some e) : h = 0 ∧ e = x := by
  have h1 : (withEntry x s).txq.entries[h] = if h = 0 then some x else s.txq.entries[h] := by
    simp only [withEntry, setSlot, Fin.getElem_fin, Vector.getElem_set]
    by_cases hz : h = 0
    · simp [hz]
    · have : (0 : Nat) ≠ h.val := fun hh => hz (Fin.ext hh.symm)
      simp [hz, this]
  rw [h1, hs h] at he
  split at he
  · exact ⟨‹_›, (Option.some.inj he).symm⟩
  · cases he

theorem active_free : ∀ h : Fin 16, active.txq.entries[h] = none := by decide +kernel

theorem witness_SlotGivesOldestEntry :
    (let s := idleAt 12 (withEntry { entryIn .waiting with seq := none } active)
     running s = true ∧ s.lif.idleCounting = true ∧ 1 ≤ 12 ∧ s.lif.idle ≤ 12 ∧
      isSlotOpening s.stc.config s.lastSender 12 = true ∧ s.lif.transmitter = .off ∧ s.lif.own = none ∧
      s.txq.current = none ∧ s.stc.station = .active ∧ s.cgm.announcement = none ∧ s.txq.beacon ≠ .plain) ∧
    Choosable (withEntry { entryIn .waiting with seq := none } active) 0 { entryIn .waiting with seq := none } ∧
    Choosable (withEntry { entryIn .waiting with dest := 255, seq := none } active) 0
      { entryIn .waiting with dest := 255, seq := none } ∧
    Choosable (withEntry (entryIn .waiting) active) 0 (entryIn .waiting) ∧
    ∀ h e, ¬ Choosable active h e := by
  refine ⟨by decide +kernel, ⟨by decide +kernel, rfl, ?_⟩, ⟨by decide +kernel, rfl, ?_⟩, ⟨by decide +kernel, rfl, ?_⟩, ?_⟩
  · intro h' e' h1 _ _
    rw [(onlyEntry active_free h1).2]
  · intro h' e' h1 _ _
    rw [(onlyEntry active_free h1).2]
  · intro h' e' h1 _ _
    rw [(onlyEntry active_free h1).2]
  · intro h e hc
    have hn := hc.1
    rw [active_free h] at hn
    cases hn

/-! ### Sending and echo -/

/-- An own DATA frame of the queue's in this state of comparison. -/
def ownData (c : Comparison) : OwnFrame := { kind := .data, joining := false, requester := .transmitQueue, comparison := c }

/-- The state with these characters to send, and these awaited in the echo list. -/
def withLine (toSend echo : List Byte) (s : State) : State :=
  { s with lif := { s.lif with toSend := toSend, echo := echo.map fun b => { value := b, elapsed := 10 } } }

theorem witness_TransmitterSendsTheFrame :
    (let s := withLine [0x10] [0xA6, 0, 0] (sendingFrame .data false .transmitQueue .opened .sending active)
     running s = true ∧ s.lif.own = some (ownData .opened) ∧ s.lif.toSend = 0x10 :: [] ∧ s.lif.echo.length ≤ 3 ∧
      s.lif.transmitter = .sending) ∧
    (let s := sendingFrame .data false .transmitQueue .opened .sending active
     s.lif.transmitter = .sending ∧ s.lif.toSend = []) ∧
    (let s := after (exec .ltxStartBit
      (withLine [0x10] [0xA6, 0, 0] (sendingFrame .data false .transmitQueue .opened .sending active)))
     s.lif.transmitter = .sending ∧ s.lif.sending = some 0x10) ∧
    (let s := sendingFrame .data false .transmitQueue .echoLost .sending active
     s.lif.own = some (ownData .echoLost) ∧ s.lif.transmitter = .sending ∧ s.lif.toSend = []) ∧
    (let s := sendingFrame .data false .transmitQueue .opened .trailing active
     s.lif.transmitter = .trailing ∧ s.pins.vddOk = true) := by decide +kernel

theorem witness_EchoComparison :
    (let s := receiving (withLine [] [0xA6] (sendingFrame .data false .transmitQueue .opened .trailing active))
     running s = true ∧ s.lif.receiver = .inCharacter false 13 ∧ s.lif.own = some (ownData .opened) ∧
      s.lif.echo = { value := 0xA6, elapsed := 10 } :: [] ∧ s.lif.transmitter = .trailing) ∧
    (let s := receiving (sendingFrame .data false .transmitQueue .opened .lead active)
     s.lif.own = some (ownData .opened) ∧ s.lif.echo = [] ∧ s.lif.transmitter = .lead) ∧
    (let s := receiving (withLine [] [0xA6] (sendingFrame .data false .transmitQueue .opened .off active))
     s.lif.own = some (ownData .opened) ∧ s.lif.echo = { value := 0xA6, elapsed := 10 } :: [] ∧
      s.lif.transmitter = .off ∧ (0xA6 : Byte) ≠ 0xA7) := by decide +kernel

/-- An entry on the line, the current frame. -/
def onTheLine (e : Entry) (s : State) : State :=
  let t := withEntry e s
  { t with txq := { t.txq with current := some (.entry 0) } }

theorem witness_EchoLossHalts :
    (let s := withLine [] [0xA6] (sendingFrame .data false .transmitQueue .opened .sending active)
     running s = true ∧ s.lif.own = some (ownData .opened) ∧ s.lif.echo ≠ [] ∧ s.lif.transmitter = .sending) ∧
    (let s := withLine [] [0xA6]
      (sendingFrame .data false .transmitQueue .opened .off (onTheLine (entryIn .onLine) (stationIn .leaving active)))
     running s = true ∧ s.lif.own = some (ownData .opened) ∧ s.lif.echo ≠ [] ∧ s.lif.transmitter = .off ∧
      s.stc.station = .leaving ∧ s.txq.current = some (.entry 0) ∧
      s.txq.entries[(0 : Fin 16)] = some (entryIn .onLine) ∧ (entryIn .onLine).state = .onLine) ∧
    (let s := withLine [] [0xA6] (sendingFrame .ack false .replyUnit .opened .off active)
     s.lif.own = some { kind := .ack, joining := false, requester := .replyUnit, comparison := .opened } ∧
      s.lif.echo ≠ [] ∧ s.lif.transmitter = .off) ∧
    (let s := sendingFrame .data false .transmitQueue .echoLost .sending (onTheLine (entryIn .onLine) active)
     running s = true ∧ s.lif.own = some (ownData .echoLost) ∧ s.lif.transmitter = .sending ∧
      s.stc.station = .active) := by decide +kernel

theorem witness_EchoLossHalts_queue :
    QueueTakesEchoLoss { kind := .ack, joining := false, requester := .replyUnit, comparison := .echoLost } active active.txq
      [] ∧
    (let s := onTheLine (entryIn .onLine) (stationIn .leaving active)
     QueueTakesEchoLoss (ownData .echoLost) s
      { setSlot 0 (some { entryIn .onLine with state := .complete .failedWithdrawn }) s.txq with current := none }
      [{ kind := .failed, subject := 0, detail := 3 }]) :=
  ⟨.inl ⟨rfl, rfl, rfl⟩, .inr (.inr ⟨0, entryIn .onLine, rfl, rfl, by decide +kernel, rfl, by decide +kernel,
    by decide +kernel⟩)⟩

/-! ### Outcomes of own frames -/

theorem witness_EntryFrameOutcome :
    (let s := sendingFrame .data false .transmitQueue .settledClean .trailing (onTheLine (entryIn .onLine) active)
     running s = true ∧ s.lif.own = some (ownData .settledClean) ∧ s.txq.current = some (.entry 0) ∧
      s.txq.entries[(0 : Fin 16)] = some (entryIn .onLine) ∧ s.stc.station ≠ .leaving ∧ s.stc.station ≠ .unjoined ∧
      s.lif.transmitter = .trailing ∧ (entryIn .onLine).dest ≠ 255 ∧ (entryIn .onLine).seq = some 0) ∧
    (let e := { entryIn .onLine with dest := 255 }
     let s := sendingFrame .data false .transmitQueue .settledClean .trailing (onTheLine e (stationIn .leaving active))
     s.txq.entries[(0 : Fin 16)] = some e ∧ e.dest = 255 ∧ s.stc.station = .leaving) ∧
    (let e := { entryIn .onLine with collisions := 7 }
     let s := sendingFrame .data false .transmitQueue .collided .sending (onTheLine e active)
     s.lif.own = some (ownData .collided) ∧ s.txq.entries[(0 : Fin 16)] = some e ∧
      s.stc.config.collisionLimit ≤ e.collisions + 1) ∧
    (let e := { entryIn .onLine with collisions := 6 }
     let s := sendingFrame .data false .transmitQueue .collided .trailing (onTheLine e active)
     s.txq.entries[(0 : Fin 16)] = some e ∧ e.collisions + 1 < s.stc.config.collisionLimit) := by decide +kernel

/-- The state with this as the current frame. -/
def current (c : CurrentFrame) (s : State) : State := { s with txq := { s.txq with current := some c } }

theorem witness_AnnouncementBeaconAckOutcome :
    (let s := sendingFrame .ack false .replyUnit .settledClean .trailing (owing true .taken active)
     running s = true ∧ s.lif.transmitter = .trailing ∧
      s.lif.own = some { kind := .ack, joining := false, requester := .replyUnit, comparison := .settledClean }) ∧
    (let s := sendingFrame .pause false .transmitQueue .settledClean .trailing (current (.announcement .pause) active)
     s.txq.current = some (.announcement .pause) ∧
      s.lif.own = some { kind := .pause, joining := false, requester := .transmitQueue, comparison := .settledClean }) ∧
    (let s := sendingFrame .resume false .transmitQueue .settledClean .trailing (current (.announcement .resume) active)
     s.txq.current = some (.announcement .resume)) ∧
    (let s := sendingFrame .beacon true .transmitQueue .settledClean .trailing
      (current (.beacon true) (stationIn .unjoined active))
     s.txq.current = some (.beacon true) ∧ s.stc.station ≠ .announcing ∧ s.lif.transmitter = .trailing) ∧
    (let s := sendingFrame .beacon true .transmitQueue .collided .trailing
      (current (.beacon true) (stationIn .announcing active))
     s.txq.current = some (.beacon true) ∧ s.stc.station = .announcing ∧ s.lif.transmitter = .trailing) ∧
    (let s := sendingFrame .beacon false .transmitQueue .collided .sending (current (.beacon false) active)
     s.txq.current = some (.beacon false) ∧ s.lif.transmitter = .sending ∧
      s.lif.own = some { kind := .beacon, joining := false, requester := .transmitQueue, comparison := .collided }) := by
  decide +kernel

theorem witness_JoiningBeaconActivates :
    (let s := sendingFrame .beacon true .transmitQueue .settledClean .trailing
      (current (.beacon true) (stationIn .announcing active))
     running s = true ∧ s.stc.station = .announcing ∧ s.lif.transmitter = .trailing ∧ s.txq.current = some (.beacon true) ∧
      s.lif.own =
        some { kind := .beacon, joining := true, requester := .transmitQueue, comparison := .settledClean }) := by
  decide +kernel

/-! ### Tick and slow timers -/

theorem witness_TickCountsEveryTimer :
    running (withPeer 1 { pausedPeer with silence := some 1, pauseTimer := some 2 } active) = true ∧
    ∃ n, (withPeer 1 { pausedPeer with silence := some 1 } active).ptb.records[(1 : Fin 32)].silence = some n ∧ n ≤ 1 :=
  ⟨by decide +kernel, 1, by decide +kernel⟩

theorem witness_TimerExpiriesAct :
    (let r := { pausedPeer with silence := some 1, pauseTimer := some 1 }
     let s := withPeer 31 r active
     running s = true ∧ s.ptb.records[(31 : Fin 32)] = r ∧ timerExpires r.silence = true ∧ timerExpires r.pauseTimer = true) ∧
    (let r := { pausedPeer with silence := some 2, pauseTimer := some 1 }
     let s := withPeer 31 r active
     running s = true ∧ s.ptb.records[(31 : Fin 32)] = r ∧ timerExpires r.silence = false ∧
      timerExpires r.pauseTimer = true ∧ r.paused = true) ∧
    ({ active with ptb := { active.ptb with beaconTimer := some 1 } } : State).ptb.beaconTimer = some 1 ∧
    ({ active with cgm := { active.cgm with refreshTimer := some 1 } } : State).cgm.refreshTimer = some 1 ∧
    ({ active with rxp := { active.rxp with deliveryTimer := some 1 } } : State).rxp.deliveryTimer = some 1 := by
  decide +kernel

/-! ### Invariants

Each law holds in a state other than the reset state that takes a step. -/

/-- An ACTIVE station with a record in its pool, and a command waiting. -/
def busy : State := { withLanes [recordOne (some 0)] [recordOne none] active with pending := [.tick] }

theorem witness_ConfigStaysInRange : ConfigLaw busy.stc.config ∧ ∃ t, step busy = .next t := by
  refine ⟨?_, _, rfl⟩
  constructor <;> decide +kernel

theorem witness_FillIsTheSumOfBlocks : PoolLaw busy.rxp ∧ ∃ t, step busy = .next t := by
  refine ⟨?_, _, rfl⟩
  constructor <;> decide +kernel

/-- The completion notice of handle 0, its entry having been TAKEN. -/
def takenNotice : Notice := completionNotice 0 .sentTaken

/-- A COMPLETE entry with its notice behind an informational one, and READ NOTICE waiting. -/
def completed : State :=
  { selected (withEntry (entryIn (.complete .sentTaken)) active) with
    notices := [leftNotice, takenNotice], pending := [.readNotice] }

theorem completed_notices : NoticeLaw completed where
  informational := by decide +kernel
  distinct := by decide +kernel
  named := by
    intro n hn hc
    have hn : n = leftNotice ∨ n = takenNotice := by simpa [completed] using hn
    rcases hn with rfl | rfl
    · simp [leftNotice, NoticeKind.isCompletion] at hc
    · exact ⟨0, entryIn (.complete .sentTaken), .sentTaken, by decide +kernel, rfl, rfl⟩
  queued := by
    intro h e o he ho
    obtain ⟨rfl, rfl⟩ := onlyEntry active_free he
    cases ho
    decide +kernel

theorem witness_CompletionNoticesMatchEntries : NoticeLaw completed ∧ ∃ t, step completed = .next t :=
  ⟨completed_notices, _, rfl⟩

theorem witness_NoticeQueueIsBounded : NoticeLaw completed := completed_notices

/-- An ACTIVE station with an entry HELD to a paused peer, and a tick waiting. -/
def holding : State :=
  { withPeer 1 pausedPeer (withEntry { entryIn .held with seq := none } active) with pending := [.tick] }

theorem holding_config : ConfigLaw holding.stc.config := by
  constructor <;> decide +kernel

theorem holding_peers : PeersLaw holding := by
  intro p
  have h : ∀ p : Fin 32, holding.ptb.records[p] = if p = 1 then pausedPeer else Peer.cleared := by decide +kernel
  rw [h p]
  split <;> constructor <;> decide +kernel

theorem witness_PeerRecordsStaySound : (ConfigLaw holding.stc.config ∧ PeersLaw holding) ∧ ∃ t, step holding = .next t :=
  ⟨⟨holding_config, holding_peers⟩, _, rfl⟩

theorem holding_only {h : Fin 16} {e : Entry} (he : holding.txq.entries[h] = some e) :
    h = 0 ∧ e = { entryIn .held with seq := none } := onlyEntry active_free he

theorem holding_notices : NoticeLaw holding where
  informational := by decide +kernel
  distinct := by decide +kernel
  named := by
    intro n hn
    cases hn
  queued := by
    intro h e o he ho
    obtain ⟨rfl, rfl⟩ := holding_only he
    cases ho

theorem holding_queue : QueueLaw holding where
  live := by
    intro h e he _
    obtain ⟨rfl, rfl⟩ := holding_only he
    exact ⟨by decide +kernel, by decide +kernel, Or.inr (by decide +kernel), fun _ => by decide +kernel,
      fun hw => (by cases hw), fun hw => (by cases hw)⟩
  in_flight := by decide +kernel
  current := by decide +kernel
  unjoined := fun hs => by cases hs
  early := fun hs => by rcases hs with hs | hs <;> cases hs
  leaving := fun hs => by cases hs
  awaiting := by
    intro h e he hs
    obtain ⟨rfl, rfl⟩ := holding_only he
    cases hs
  wait := fun w hw => by cases hw
  chosen := fun o ho => by cases ho
  reply := fun o ho => by cases ho

theorem witness_QueueStaysSound :
    (ConfigLaw holding.stc.config ∧ NoticeLaw holding ∧ QueueLaw holding) ∧ ∃ t, step holding = .next t :=
  ⟨⟨holding_config, holding_notices, holding_queue⟩, _, rfl⟩

theorem holding_table : TableLaw holding where
  unjoined := fun hs => by cases hs
  unused := by decide +kernel

theorem witness_UnusedRecordsStayCleared :
    (ConfigLaw holding.stc.config ∧ NoticeLaw holding ∧ QueueLaw holding ∧ TableLaw holding) ∧
      ∃ t, step holding = .next t :=
  ⟨⟨holding_config, holding_notices, holding_queue, holding_table⟩, _, rfl⟩

/-- A CONGESTED station that has announced it, its refresh timer running, and a tick waiting. -/
def crowded : State :=
  { filled 36 active with
    cgm := { active.cgm with congested := true, announced := true, refreshTimer := some 1 }, pending := [.tick] }

theorem witness_CongestionFollowsTheFill :
    (ConfigLaw crowded.stc.config ∧ MonitorLaw crowded) ∧ ∃ t, step crowded = .next t := by
  refine ⟨⟨?_, ?_⟩, _, rfl⟩
  · constructor <;> decide +kernel
  · constructor <;> decide +kernel

/-- A LISTENING station that has heard station 7, and the end of its listening round waiting. -/
def listener : State :=
  { idleAt 43 active with
    lastSender := some 7, stc := { active.stc with station := .listening, listeningRound := some 44 },
    pending := [.listeningRoundEnd 44] }

theorem witness_LastSenderStaysBelowLadderSize : LadderLaw listener ∧ ∃ t, step listener = .next t := by
  refine ⟨?_, _, rfl⟩
  constructor <;> decide +kernel

/-- A station in TRAILING that awaits its last echo, and the release of LDE waiting. -/
def trailer : State :=
  { withLine [] [0xA6] (sendingFrame .ack false .replyUnit .opened .trailing active) with pending := [.ldeRelease] }

theorem witness_LineStaysSound : LineLaw trailer.lif ∧ ∃ t, step trailer = .next t := by
  refine ⟨?_, _, rfl⟩
  constructor <;> first | decide +kernel | (intro lde d h; cases h)

/-- A station in the middle of a DATA frame to it, with a record in its pool and a character to come. -/
def assembling : State :=
  { withLanes [] [recordOne none] (inFrame (partly false [0x10, 0, 3, 9, 2, 1])) with
    pending := [.characterComplete 2 true] }

/-- The frame it assembles. -/
def assembled : Assembly := partly false [0x10, 0, 3, 9, 2, 1]

theorem assembled_law : AssemblyLaw assembled := by
  constructor <;> decide +kernel

theorem witness_AssemblyStaysSound :
    (ReceiverLaw assembling ∧ PayloadLaw assembling) ∧ ∃ t, step assembling = .next t := by
  refine ⟨⟨?_, by decide +kernel, ?_⟩, _, rfl⟩
  · intro a h
    have h : FrameReceiver.inFrame assembled = .inFrame a := h
    cases h
    exact assembled_law
  · intro h e he
    have hf : ∀ h : Fin 16, assembling.txq.entries[h] = none := by decide +kernel
    rw [hf h] at he
    cases he

/-- GET FIELD half taken, and an HCK edge waiting. -/
def clocked : State := { halfTaken with pending := [.hckEdge true false] }

theorem witness_PortStaysSound : PortLaw clocked ∧ ∃ t, step clocked = .next t := by
  refine ⟨?_, _, rfl⟩
  constructor <;> decide +kernel

/-- The noise counter at its ceiling, and a noise character waiting. -/
def saturated : State :=
  { receiving active with
    counters := { Counters.zero with noise := 65535 }, pending := [.characterComplete 0 true] }

theorem witness_CountersSaturateAndAttnFollows :
    (CountersLaw saturated.counters ∧ AttnLaw saturated) ∧ ∃ t, step saturated = .next t := by
  refine ⟨⟨?_, ?_⟩, _, rfl⟩
  · unfold CountersLaw
    decide +kernel
  · unfold AttnLaw
    decide +kernel

end Sys2Proof.Tests
end

/-! PROOFS. SUBMIT, CANCEL and QUERY ENTRY (R55, R56, R69, R71): the value of each command's checks, then the command's effect
under each outcome of its checks, then the statements. -/

namespace Sys2Proof.Machine

/-! ### A host command that the port takes -/

/-- The row of a command that the port takes, by the value of the command's effect (R162). -/
theorem next_onPort_answers {c : HostCommand} {effect : Effect} {s u : State} {answer : List Byte}
    (hp : portTakes c s = true) (hc : portAfter c = .answering) (he : effect s = (u, answer)) :
    (.next (settleAttn (onPort c effect s)) : Host.Outcome State Fault Refusal) =
      .next (settleAttn (answered c answer u)) := by
  rw [onPort_taken hp, executeCommand_answered hc, he]

theorem exec_submit_answers {dest length : Byte} {payload : List Byte} {s u : State} {answer : List Byte}
    (hp : portTakes (.submit dest length payload) s = true) (he : cmdSubmit dest length payload s = (u, answer)) :
    exec (.submit dest length payload) s = .next (settleAttn (answered (.submit dest length payload) answer u)) :=
  next_onPort_answers hp rfl he

theorem exec_cancel_answers {b : Byte} {s u : State} {answer : List Byte}
    (hp : portTakes (.cancel b) s = true) (he : cmdCancel b s = (u, answer)) :
    exec (.cancel b) s = .next (settleAttn (answered (.cancel b) answer u)) :=
  next_onPort_answers hp rfl he

theorem exec_queryEntry_answers {b : Byte} {s u : State} {answer : List Byte}
    (hp : portTakes (.queryEntry b) s = true) (he : cmdQueryEntry b s = (u, answer)) :
    exec (.queryEntry b) s = .next (settleAttn (answered (.queryEntry b) answer u)) :=
  next_onPort_answers hp rfl he

/-! ### SUBMIT's checks (R55) -/

theorem acceptsSubmit_iff {s : State} : acceptsSubmit s = true ↔
    s.stc.station = .listening ∨ s.stc.station = .announcing ∨ s.stc.station = .active := by
  unfold acceptsSubmit
  cases s.stc.station <;> simp

theorem acceptsSubmit_eq_false {s : State} : acceptsSubmit s = false ↔
    s.stc.station = .unjoined ∨ s.stc.station = .leaving ∨ s.stc.station = .halted := by
  unfold acceptsSubmit
  cases s.stc.station <;> simp

theorem badSubmit_iff {s : State} {dest length : Byte} : badSubmit s dest length = true ↔
    dest.toNat = s.stc.config.ownNumber ∨ (s.stc.config.ladderSize ≤ dest.toNat ∧ dest ≠ 255) ∨ 60 < length.toNat := by
  simp only [badSubmit, Bool.or_eq_true, Bool.and_eq_true, decide_eq_true_eq, or_assoc]
  rfl

theorem badSubmit_eq_false {s : State} {dest length : Byte} (hown : dest.toNat ≠ s.stc.config.ownNumber)
    (hdest : dest.toNat < s.stc.config.ladderSize ∨ dest = 255) (hlen : length.toNat ≤ 60) :
    badSubmit s dest length = false := by
  rw [← Bool.not_eq_true, badSubmit_iff]
  rintro (h | ⟨hge, hne⟩ | h)
  · exact hown h
  · exact hdest.elim (fun hlt => by omega) hne
  · omega

theorem allHandles_sorted : allHandles.Pairwise (· < ·) := by decide

theorem lowestFree_eq_none {q : TransmitQueue} : lowestFree q = none ↔ ∀ h : Fin 16, q.entries[h] ≠ none := by
  simp [lowestFree, mem_allHandles]

/-- The entry found is FREE, and every lower one is in use, since the handles are searched in increasing order (R56). -/
theorem lowestFree_some {q : TransmitQueue} {k : Fin 16} (hk : lowestFree q = some k) :
    q.entries[k] = none ∧ ∀ h : Fin 16, h < k → q.entries[h] ≠ none := by
  obtain ⟨hfree, before, after, hsplit, hused⟩ := List.find?_eq_some_iff_append.1 hk
  refine ⟨by simpa using hfree, fun h hlt hnone => ?_⟩
  have hmem : h ∈ before ++ k :: after := hsplit ▸ mem_allHandles h
  have hsorted : (before ++ k :: after).Pairwise (· < ·) := hsplit ▸ allHandles_sorted
  obtain ⟨-, hrest, -⟩ := List.pairwise_append.1 hsorted
  rcases List.mem_append.1 hmem with hbefore | hafter
  · simpa [hnone] using hused h hbefore
  · rcases List.mem_cons.1 hafter with rfl | hafter
    · exact lt_irrefl _ hlt
    · exact lt_asymm hlt ((List.pairwise_cons.1 hrest).1 h hafter)

theorem lowestFree_eq_some {q : TransmitQueue} {h : Fin 16} (hfree : q.entries[h] = none)
    (hlow : ∀ h' : Fin 16, h' < h → q.entries[h'] ≠ none) : lowestFree q = some h := by
  cases hk : lowestFree q with
  | none => exact absurd hfree (lowestFree_eq_none.1 hk h)
  | some k =>
    obtain ⟨hkfree, hklow⟩ := lowestFree_some hk
    rcases lt_trichotomy k h with hlt | rfl | hgt
    · exact absurd hkfree (hlow k hlt)
    · rfl
    · exact absurd hfree (hklow h hgt)

/-! ### SUBMIT's effect (R55, R56) -/

theorem cmdSubmit_wrongState {s : State} (h : acceptsSubmit s = false) (dest length : Byte) (payload : List Byte) :
    cmdSubmit dest length payload s = (s, [0x04]) := by
  simp [cmdSubmit, h, answerOf, AnswerCode.byte]

theorem cmdSubmit_badParam {s : State} {dest length : Byte} (ha : acceptsSubmit s = true)
    (hb : badSubmit s dest length = true) (payload : List Byte) :
    cmdSubmit dest length payload s = (s, [0x03]) := by
  simp [cmdSubmit, ha, hb, answerOf, AnswerCode.byte]

theorem cmdSubmit_queueFull {s : State} {dest length : Byte} (ha : acceptsSubmit s = true)
    (hb : badSubmit s dest length = false) (hf : lowestFree s.txq = none) (payload : List Byte) :
    cmdSubmit dest length payload s = (s, [0x02]) := by
  simp [cmdSubmit, ha, hb, hf, answerOf, AnswerCode.byte]

theorem cmdSubmit_accepted {s : State} {dest length : Byte} {h : Fin 16} (ha : acceptsSubmit s = true)
    (hb : badSubmit s dest length = false) (hf : lowestFree s.txq = some h) (payload : List Byte) :
    cmdSubmit dest length payload s = (takeEntry h dest payload s, [0x00, byteOf h.val]) := by
  simp [cmdSubmit, ha, hb, hf, doneWith, AnswerCode.byte]

/-- The entry an accepted SUBMIT takes, and the counter that numbered it (R56). -/
theorem takeEntry_eq (h : Fin 16) (dest : Byte) (payload : List Byte) (s : State) :
    takeEntry h dest payload s =
      { s with txq := { setSlot h (some { state := waitingState s dest, dest := dest, payload := payload,
                                          number := s.txq.submissions, seq := none, attempts := 0,
                                          collisions := 0 }) s.txq with
        submissions := s.txq.submissions + 1 } } := by
  rw [← waitingState_eq]
  rfl

/-- Settles O17: each check's hypothesis gives the check's value, and so the effect and the answer. -/
theorem submitJudgedInOrder : Obligations.SubmitJudgedInOrder := by
  intro s dest length payload hp
  refine ⟨fun hst => ?wrongState, fun hst => ⟨fun hbad => ?badParam, fun hown hdest hlen hfull => ?queueFull⟩,
    fun h hst hown hdest hlen hfree hlow => ?accepted⟩
  case wrongState => exact exec_submit_answers hp (cmdSubmit_wrongState (acceptsSubmit_eq_false.2 hst) ..)
  case badParam => exact exec_submit_answers hp (cmdSubmit_badParam (acceptsSubmit_iff.2 hst) (badSubmit_iff.2 hbad) _)
  case queueFull =>
    exact exec_submit_answers hp (cmdSubmit_queueFull (acceptsSubmit_iff.2 hst) (badSubmit_eq_false hown hdest hlen)
      (lowestFree_eq_none.2 hfull) _)
  case accepted =>
    rw [← takeEntry_eq]
    exact exec_submit_answers hp (cmdSubmit_accepted (acceptsSubmit_iff.2 hst) (badSubmit_eq_false hown hdest hlen)
      (lowestFree_eq_some hfree hlow) _)

/-! ### CANCEL's effect (R69) -/

theorem cmdCancel_badHandle {b : Byte} (h : 15 < b.toNat) (s : State) : cmdCancel b s = (s, [0x03]) := by
  simp [cmdCancel, handleOf_eq_none.2 h, answerOf, AnswerCode.byte]

theorem cmdCancel_free {s : State} {h : Fin 16} (hf : s.txq.entries[h] = none) :
    cmdCancel (byteOf h.val) s = (s, [0x05]) := by
  simp only [cmdCancel, handleOf_byteOf, hf, answerOf, AnswerCode.byte]

theorem cmdCancel_queued {s : State} {h : Fin 16} {e : Entry} (he : s.txq.entries[h] = some e)
    (hq : e.state = .waiting ∨ e.state = .held) :
    cmdCancel (byteOf h.val) s = ({ s with txq := setSlot h none s.txq }, [0x00]) := by
  have hqueued : e.state.isQueued = true := by rcases hq with hq | hq <;> rw [hq] <;> rfl
  simp only [cmdCancel, handleOf_byteOf, he, hqueued, if_true]
  rfl

theorem cmdCancel_inFlight {s : State} {h : Fin 16} {e : Entry} (he : s.txq.entries[h] = some e)
    (hl : e.state = .onLine ∨ e.state = .awaitingReply) : cmdCancel (byteOf h.val) s = (s, [0x06]) := by
  simp only [cmdCancel, handleOf_byteOf, he]
  rcases hl with hl | hl <;> rw [hl] <;> rfl

theorem cmdCancel_complete {s : State} {h : Fin 16} {e : Entry} (he : s.txq.entries[h] = some e)
    {o : EntryOutcome} (ho : e.state = .complete o) : cmdCancel (byteOf h.val) s = (s, [0x05]) := by
  simp only [cmdCancel, handleOf_byteOf, he, ho]
  rfl

/-! ### QUERY ENTRY's effect (R71) -/

theorem cmdQueryEntry_badHandle {b : Byte} (h : 15 < b.toNat) (s : State) : cmdQueryEntry b s = (s, [0x03]) := by
  simp [cmdQueryEntry, handleOf_eq_none.2 h, answerOf, AnswerCode.byte]

theorem cmdQueryEntry_free {s : State} {h : Fin 16} (hf : s.txq.entries[h] = none) :
    cmdQueryEntry (byteOf h.val) s = (s, [0x05]) := by
  simp only [cmdQueryEntry, handleOf_byteOf, hf, answerOf, AnswerCode.byte]

theorem cmdQueryEntry_entry {s : State} {h : Fin 16} {e : Entry} (he : s.txq.entries[h] = some e) :
    cmdQueryEntry (byteOf h.val) s = (s, 0x00 :: entryBytes e) := by
  simp only [cmdQueryEntry, handleOf_byteOf, he, doneWith, AnswerCode.byte]

theorem byteOf_entryCode (st : EntryState) : byteOf st.code =
    if st = .waiting then 1 else if st = .held then 2 else if st = .onLine then 3
      else if st = .awaitingReply then 4 else 5 := by
  cases st <;> rfl

theorem optionalByte_eq (o : Option Byte) : optionalByte o = [if o = none then 0 else 1, o.getD 0] := by
  cases o <;> rfl

/-- The answer data of QUERY ENTRY, byte by byte (R71, R180). -/
theorem entryBytes_eq (e : Entry) : entryBytes e =
    [if e.state = .waiting then 1 else if e.state = .held then 2 else if e.state = .onLine then 3
        else if e.state = .awaitingReply then 4 else 5,
      e.dest, if e.seq = none then 0 else 1, e.seq.getD 0, byteOf e.attempts, byteOf e.collisions] := by
  simp only [entryBytes, byteOf_entryCode, optionalByte_eq, List.cons_append, List.nil_append]

/-- Settles O18, for each command by the handle, then by the entry it names; CANCEL by that entry's state besides. -/
theorem cancelAndQueryByEntryState : Obligations.CancelAndQueryByEntryState := by
  constructor
  case left =>
    intro s b hp
    refine ⟨fun hb => exec_cancel_answers hp (cmdCancel_badHandle hb s), ?_⟩
    rintro h rfl
    exact ⟨fun hf => exec_cancel_answers hp (cmdCancel_free hf), fun e he =>
      ⟨fun hq => exec_cancel_answers hp (cmdCancel_queued he hq),
        fun hl => exec_cancel_answers hp (cmdCancel_inFlight he hl),
        fun o ho => exec_cancel_answers hp (cmdCancel_complete he ho)⟩⟩
  case right =>
    intro s b hp
    refine ⟨fun hb => exec_queryEntry_answers hp (cmdQueryEntry_badHandle hb s), ?_⟩
    rintro h rfl
    refine ⟨fun hf => exec_queryEntry_answers hp (cmdQueryEntry_free hf), fun e he => ?_⟩
    rw [← entryBytes_eq]
    exact exec_queryEntry_answers hp (cmdQueryEntry_entry he)

end Sys2Proof.Machine

/-! PROOFS. The Receive Pool (R114 to R128): the lane of a stored record and its watch index, then what READ FRAME and
FLUSH POOL take out of the pool and answer, then the statements. -/

namespace Sys2Proof.Machine

/-! ### The lane of a stored record (R114, R116, R118, R127) -/

theorem Record.blocks_eq (r : Record) : r.blocks = if r.payload.length ≤ 32 then 1 else 2 := rfl

theorem poolWith_normal {r : Record} (hw : r.watch = none) (c : ConfigRecord) (p : ReceivePool) :
    poolWith c r p = { p with normal := p.normal ++ [r], fill := p.fill + r.blocks,
                              deliveryTimer := loadDelivery c p.deliveryTimer } := by
  simp [poolWith, hw]

theorem poolWith_urgent {r : Record} {i : Fin 4} (hw : r.watch = some i) (c : ConfigRecord) (p : ReceivePool) :
    poolWith c r p = { p with urgent := p.urgent ++ [r], fill := p.fill + r.blocks } := by
  simp [poolWith, hw]

theorem watchIndex_empty (c : ConfigRecord) (source : Byte) : watchIndex c source [] = none := rfl

theorem Watch.accepts_cons_iff {w : Watch} {source b : Byte} {rest : List Byte} :
    w.accepts source (b :: rest) = true ↔
      w.enabled = true ∧ (w.source = none ∨ w.source = some source.toNat) ∧ b &&& w.mask = w.value &&& w.mask := by
  simp [Watch.accepts, and_assoc]

/-- The watch entries are searched from the lowest number up (R118). -/
theorem watchIndex_eq_find (c : ConfigRecord) (source : Byte) (payload : List Byte) :
    watchIndex c source payload = Fin.find? fun i : Fin 4 => c.watches[i].accepts source payload := by
  rw [Fin.find?_eq_find?_finRange]
  rfl

theorem watchIndex_eq_some {c : ConfigRecord} {source : Byte} {payload : List Byte} {i : Fin 4} :
    watchIndex c source payload = some i ↔
      c.watches[i].accepts source payload = true ∧ ∀ j < i, ¬ c.watches[j].accepts source payload = true := by
  simp only [watchIndex_eq_find, Fin.find?_eq_some_iff, Bool.not_eq_true]

theorem watchIndex_eq_none {c : ConfigRecord} {source : Byte} {payload : List Byte} :
    watchIndex c source payload = none ↔ ∀ j : Fin 4, ¬ c.watches[j].accepts source payload = true := by
  simp only [watchIndex_eq_find, Fin.find?_eq_none_iff, Bool.not_eq_true]

/-- Settles O32: the lane by the record's watch index, and that index by the search through the watch entries. -/
theorem laneChoice : Obligations.LaneChoice := by
  intro c r p
  refine ⟨fun hw => ?normal, fun i hw => ?urgent, fun source i => ⟨watchIndex_empty c source, fun b rest => ?watched⟩⟩
  case normal => rw [poolWith_normal hw, Record.blocks_eq, loadDelivery]
  case urgent => rw [poolWith_urgent hw, Record.blocks_eq]
  case watched =>
    simp only [← Watch.accepts_cons_iff (rest := rest)]
    exact ⟨watchIndex_eq_some, watchIndex_eq_none⟩

/-! ### A command that replaces the pool (R121, R162) -/

/-- The change of fill is handed to the monitor: with the pool, only the monitor, the notices and the counters move. -/
theorem judgeFill_setPool (p : ReceivePool) (s : State) :
    ∃ u, judgeFill (setPool p s) = u ∧
      u = { s with rxp := p, cgm := u.cgm, notices := u.notices, counters := u.counters } ∧ FillJudged s.cgm s u :=
  ⟨_, rfl, judgeFill_state (setPool p s), judgeFill_judged (setPool p s)⟩

theorem exec_readFrame_answers {s u : State} {answer : List Byte} (hp : portTakes .readFrame s = true)
    (he : cmdReadFrame s = (u, answer)) :
    exec .readFrame s = .next (settleAttn (answered .readFrame answer u)) :=
  next_onPort_answers hp rfl he

theorem exec_flushPool_answers {s u : State} {answer : List Byte} (hp : portTakes .flushPool s = true)
    (he : cmdFlushPool s = (u, answer)) :
    exec .flushPool s = .next (settleAttn (answered .flushPool answer u)) :=
  next_onPort_answers hp rfl he

/-! ### READ FRAME (R122, R127, R128, R180) -/

/-- The answer data of READ FRAME, byte by byte (R180). -/
theorem recordBytes_eq (urgent : Bool) (r : Record) : recordBytes urgent r =
    [if urgent = true then 1 else 0, r.source, if r.broadcast = true then 1 else 0, r.seq,
      r.watch.elim 255 (fun i => byteOf i.val), byteOf r.payload.length] ++ r.payload := by
  unfold recordBytes
  cases r.watch <;> rfl

theorem cmdReadFrame_empty {s : State} (hu : s.rxp.urgent = []) (hn : s.rxp.normal = []) :
    cmdReadFrame s = (s, [0x01]) := by
  simp [cmdReadFrame, hu, hn, answerOf, AnswerCode.byte]

theorem cmdReadFrame_urgent {s : State} {r : Record} {rest : List Record} (hu : s.rxp.urgent = r :: rest) :
    cmdReadFrame s = (judgeFill (setPool (poolWithoutUrgent r rest s.rxp) s), 0x00 :: recordBytes true r) := by
  simp [cmdReadFrame, hu, doneWith, AnswerCode.byte]

theorem cmdReadFrame_normal {s : State} {r : Record} {rest : List Record} (hu : s.rxp.urgent = [])
    (hn : s.rxp.normal = r :: rest) :
    cmdReadFrame s =
      (judgeFill (setPool (poolWithoutNormal s.stc.config r rest s.rxp) s), 0x00 :: recordBytes false r) := by
  simp [cmdReadFrame, hu, hn, doneWith, AnswerCode.byte]

theorem poolWithoutNormal_eq (c : ConfigRecord) (r : Record) (rest : List Record) (p : ReceivePool) :
    poolWithoutNormal c r rest p = { p with
      normal := rest, fill := p.fill - r.blocks, stale := false,
      deliveryTimer := if rest = [] then none
        else if c.deliveryTimeout = 0 then p.deliveryTimer else some c.deliveryTimeout } := by
  simp only [poolWithoutNormal, loadDelivery, List.isEmpty_iff]

/-- Settles O19, by the lane that READ FRAME finds a record in. -/
theorem readFrameTakesTheHead : Obligations.ReadFrameTakesTheHead := by
  intro s hp
  refine ⟨fun hu hn => ?empty, fun r rest hu => ?urgent, fun r rest hu hn => ?normal⟩
  case empty => exact exec_readFrame_answers hp (cmdReadFrame_empty hu hn)
  case urgent =>
    obtain ⟨u, hnext, hjudged⟩ := judgeFill_setPool (poolWithoutUrgent r rest s.rxp) s
    have heffect := cmdReadFrame_urgent hu
    rw [hnext, recordBytes_eq] at heffect
    exact ⟨u, exec_readFrame_answers hp heffect, hjudged⟩
  case normal =>
    obtain ⟨u, hnext, hjudged⟩ := judgeFill_setPool (poolWithoutNormal s.stc.config r rest s.rxp) s
    have heffect := cmdReadFrame_normal hu hn
    rw [hnext, recordBytes_eq] at heffect
    rw [poolWithoutNormal_eq] at hjudged
    exact ⟨u, exec_readFrame_answers hp heffect, hjudged⟩

/-! ### FLUSH POOL (R124) -/

theorem recordCount_eq_zero {p : ReceivePool} : recordCount p = 0 ↔ p.urgent = [] ∧ p.normal = [] := by
  simp [recordCount]

theorem cmdFlushPool_empty {s : State} (h : recordCount s.rxp = 0) : cmdFlushPool s = (s, [0x00, 0]) := by
  simp [cmdFlushPool, h, doneWith, AnswerCode.byte]

theorem cmdFlushPool_records {s : State} (h : recordCount s.rxp ≠ 0) :
    cmdFlushPool s = (judgeFill (setPool ReceivePool.afterReset s),
      [0x00, byteOf (s.rxp.urgent.length + s.rxp.normal.length)]) := by
  rw [cmdFlushPool, if_neg h]
  rfl

/-- Settles O20, by whether the pool holds a record. -/
theorem flushPoolEmptiesThePool : Obligations.FlushPoolEmptiesThePool := by
  intro s hp
  refine ⟨fun hu hn => ?empty, fun hrecord => ?records⟩
  case empty => exact exec_flushPool_answers hp (cmdFlushPool_empty (recordCount_eq_zero.2 ⟨hu, hn⟩))
  case records =>
    have hcount : recordCount s.rxp ≠ 0 := by rwa [Ne, recordCount_eq_zero, not_and_or]
    obtain ⟨u, hnext, hjudged⟩ := judgeFill_setPool ReceivePool.afterReset s
    have heffect := cmdFlushPool_records hcount
    rw [hnext] at heffect
    exact ⟨u, exec_flushPool_answers hp heffect, hjudged⟩

end Sys2Proof.Machine

/-! PROOFS. SET FIELD, GET FIELD and JOIN (R129, R133, R145 to R149): what a written field changes, the effect of each command
under each outcome of its checks, then the statements. -/

namespace Sys2Proof.Machine

/-! ### SET FIELD's effect (R16, R129, R145) -/

theorem exec_setField_answers {id : Byte} {value : List Byte} {s u : State} {answer : List Byte}
    (hp : portTakes (.setField id value) s = true) (he : cmdSetField id value s = (u, answer)) :
    exec (.setField id value) s = .next (settleAttn (answered (.setField id value) answer u)) :=
  next_onPort_answers hp rfl he

theorem cmdSetField_wrongState {s : State} (h : s.stc.station ≠ .unjoined) (id : Byte) (value : List Byte) :
    cmdSetField id value s = (s, [0x04]) := by
  simp [cmdSetField, h, answerOf, AnswerCode.byte]

theorem cmdSetField_badId {s : State} {id : Byte} (h : s.stc.station = .unjoined) (hid : fieldOfId id = none)
    (value : List Byte) : cmdSetField id value s = (s, [0x03]) := by
  simp [cmdSetField, h, hid, answerOf, AnswerCode.byte]

theorem cmdSetField_badValue {s : State} {id : Byte} {value : List Byte} {f : FieldId} (h : s.stc.station = .unjoined)
    (hid : fieldOfId id = some f) (hv : writeField s.stc.config f value = none) :
    cmdSetField id value s = (s, [0x03]) := by
  simp [cmdSetField, h, hid, hv, answerOf, AnswerCode.byte]

theorem cmdSetField_accepted {s : State} {id : Byte} {value : List Byte} {f : FieldId} {c : ConfigRecord}
    (h : s.stc.station = .unjoined) (hid : fieldOfId id = some f) (hv : writeField s.stc.config f value = some c) :
    cmdSetField id value s = (fieldWritten f c s, [0x00]) := by
  simp [cmdSetField, h, hid, hv, answerOf, AnswerCode.byte]

/-- A new delivery timeout acts on the delivery timer alone (R129). -/
theorem poolAfterTimeoutWrite_eq (timeout : Nat) (p : ReceivePool) :
    poolAfterTimeoutWrite timeout p = { p with
      deliveryTimer := if timeout = 0 then none
        else if p.deliveryTimer = none ∧ p.normal ≠ [] then some timeout else p.deliveryTimer } := by
  have hload : (p.deliveryTimer.isNone && !p.normal.isEmpty) = true ↔ p.deliveryTimer = none ∧ p.normal ≠ [] := by
    simp
  simp only [poolAfterTimeoutWrite, hload]
  split_ifs <;> rfl

/-- A new divisor acts on the next start bit alone, and there only while no own frame is on the line (R16). -/
theorem withNewDivisor_eq (l : LineInterface) (divisor : Nat) :
    l.withNewDivisor divisor = if l.own = none then { l with startDivisor := divisor } else l := by
  simp only [LineInterface.withNewDivisor, Option.isNone_iff_eq_none]

/-- The blocks that a written field acts on: the record always, the Line Interface by the divisor, the pool by the delivery
timeout (R16, R129, R145). -/
theorem fieldWritten_eq (f : FieldId) (c : ConfigRecord) (s : State) :
    fieldWritten f c s = { s with
      stc := { s.stc with config := c },
      lif := if f = .divisor then s.lif.withNewDivisor c.divisor else s.lif,
      rxp := if f = .deliveryTimeout then poolAfterTimeoutWrite c.deliveryTimeout s.rxp else s.rxp } := by
  cases f <;> rfl

/-! ### GET FIELD's effect (R146) -/

theorem exec_getField_answers {id : Byte} {s u : State} {answer : List Byte}
    (hp : portTakes (.getField id) s = true) (he : cmdGetField id s = (u, answer)) :
    exec (.getField id) s = .next (settleAttn (answered (.getField id) answer u)) :=
  next_onPort_answers hp rfl he

theorem cmdGetField_field {id : Byte} {f : FieldId} (hid : fieldOfId id = some f) (s : State) :
    cmdGetField id s = (s, 0x00 :: readField s.stc.config f) := by
  simp [cmdGetField, hid, doneWith, AnswerCode.byte]

theorem cmdGetField_badId {id : Byte} (hid : fieldOfId id = none) (s : State) : cmdGetField id s = (s, [0x03]) := by
  simp [cmdGetField, hid, answerOf, AnswerCode.byte]

/-- Settles O13: each check's hypothesis gives the effect, and an accepted field's effect is read block by block. -/
theorem setAndGetFieldServeTheRecord : Obligations.SetAndGetFieldServeTheRecord := by
  refine ⟨fun s id v hp => ⟨fun hst => ?wrongState, fun hst hid => ?badId, fun f hst hid hv => ?badValue,
    fun f c hst hid hv => ?accepted⟩, fun s id hp => ⟨fun f hid => ?read, fun hid => ?readBadId⟩⟩
  case wrongState => exact exec_setField_answers hp (cmdSetField_wrongState hst ..)
  case badId => exact exec_setField_answers hp (cmdSetField_badId hst hid _)
  case badValue => exact exec_setField_answers hp (cmdSetField_badValue hst hid hv)
  case accepted =>
    have heffect := cmdSetField_accepted hst hid hv
    rw [fieldWritten_eq, poolAfterTimeoutWrite_eq, withNewDivisor_eq, ← ite_and] at heffect
    exact exec_setField_answers hp heffect
  case read => exact exec_getField_answers hp (cmdGetField_field hid s)
  case readBadId => exact exec_getField_answers hp (cmdGetField_badId hid s)

/-! ### JOIN's checks (R149) -/

theorem joinFault_ownNumber {c : ConfigRecord} (h : c.ladderSize ≤ c.ownNumber) : joinFault c = some 0x01 := by
  rw [joinFault, if_pos h]

theorem joinFault_lowMark {c : ConfigRecord} (hown : c.ownNumber < c.ladderSize) (h : c.highMark ≤ c.lowMark) :
    joinFault c = some 0x09 := by
  rw [joinFault, if_neg (Nat.not_le.2 hown), if_pos h]

theorem joinFault_none {c : ConfigRecord} (hown : c.ownNumber < c.ladderSize) (hmark : c.lowMark < c.highMark) :
    joinFault c = none := by
  rw [joinFault, if_neg (Nat.not_le.2 hown), if_neg (Nat.not_le.2 hmark)]

/-! ### JOIN's effect (R133, R147, R148) -/

theorem exec_join_answers {s u : State} {answer : List Byte} (hp : portTakes .join s = true)
    (he : cmdJoin s = (u, answer)) : exec .join s = .next (settleAttn (answered .join answer u)) :=
  next_onPort_answers hp rfl he

theorem cmdJoin_wrongState {s : State} (h : s.stc.station ≠ .unjoined) : cmdJoin s = (s, [0x04]) := by
  simp [cmdJoin, h, answerOf, AnswerCode.byte]

theorem cmdJoin_invalidConfig {s : State} {id : Byte} (h : s.stc.station = .unjoined)
    (hf : joinFault s.stc.config = some id) : cmdJoin s = (s, [0x07, id]) := by
  simp [cmdJoin, h, hf, AnswerCode.byte]

theorem cmdJoin_accepted {s : State} (h : s.stc.station = .unjoined) (hf : joinFault s.stc.config = none) :
    cmdJoin s = (joinStation s, [0x00]) := by
  simp [cmdJoin, h, hf, answerOf, AnswerCode.byte]

/-- The marks in force are the record's, and the kept fill is judged against them: only the monitor, the notices and the
counters move (R133). -/
theorem monitorJoins_judged (s : State) :
    monitorJoins s = { s with
        cgm := (monitorJoins s).cgm, notices := (monitorJoins s).notices, counters := (monitorJoins s).counters } ∧
      FillJudged { s.cgm with highMark := s.stc.config.highMark, lowMark := s.stc.config.lowMark } s (monitorJoins s) :=
  ⟨judgeFill_state (setMonitor _ s), judgeFill_judged (setMonitor _ s)⟩

/-- The state that an accepted JOIN reaches (R133, R148). -/
theorem joinStation_listening (s : State) :
    joinStation s = { s with
        lastSender := none,
        stc := { s.stc with
          station := .listening,
          listeningRound := some (s.stc.config.replyWindow + 4 + s.stc.config.ladderSize * s.stc.config.slotWidth) },
        cgm := (joinStation s).cgm, notices := (joinStation s).notices, counters := (joinStation s).counters } ∧
      FillJudged { s.cgm with highMark := s.stc.config.highMark, lowMark := s.stc.config.lowMark } s (joinStation s) :=
  monitorJoins_judged (setLastSender none (setStation .listening (some (listeningRound s.stc.config)) s))

/-- Settles O15, by the first of JOIN's checks that fails. -/
theorem joinChecksAndEntersListening : Obligations.JoinChecksAndEntersListening := by
  intro s hp
  refine ⟨fun hst => ?wrongState, fun hst hown => ?ownNumber, fun hst hown hmark => ?lowMark,
    fun hst hown hmark => ?accepted⟩
  case wrongState => exact exec_join_answers hp (cmdJoin_wrongState hst)
  case ownNumber => exact exec_join_answers hp (cmdJoin_invalidConfig hst (joinFault_ownNumber hown))
  case lowMark => exact exec_join_answers hp (cmdJoin_invalidConfig hst (joinFault_lowMark hown hmark))
  case accepted =>
    exact ⟨joinStation s, exec_join_answers hp (cmdJoin_accepted hst (joinFault_none hown hmark)),
      joinStation_listening s⟩

end Sys2Proof.Machine

/-! PROOFS. NOP, READ STATUS and READ PEER (R98, R163, R168, R180): the bytes that each report spells, the effect of each
command, then the statement. -/

namespace Sys2Proof.Machine

/-! ### Report bytes (R168, R180) -/

theorem byteOf_stationCode (st : StationState) : byteOf st.code =
    if st = .unjoined then 0 else if st = .listening then 1 else if st = .announcing then 2
      else if st = .active then 3 else if st = .leaving then 4 else 5 := by
  cases st <;> rfl

/-- A flag byte spells its four flags with these weights (R180). -/
theorem AttnFlags.number_eq (f : AttnFlags) : f.number =
    (if f.notices = true then 1 else 0) + (if f.urgent = true then 2 else 0)
      + (if f.threshold = true then 4 else 0) + (if f.stale = true then 8 else 0) := by
  simp only [AttnFlags.number, numberOfBits, List.length_cons, List.length_nil, Nat.zero_add, Nat.reduceAdd,
    Nat.reducePow]
  omega

/-- The four causes as the flags of R180, whether masked or not (R126, R177). -/
theorem attnCauses_number (s : State) : (attnCauses s).number =
    (if s.notices = [] then 0 else 1) + (if s.rxp.urgent = [] then 0 else 2)
      + (if s.stc.config.deliveryThreshold ≤ s.rxp.normal.length then 4 else 0)
      + (if s.rxp.stale = true then 8 else 0) := by
  simp only [AttnFlags.number_eq, attnCauses, decide_eq_true_eq, Bool.not_eq_true', List.isEmpty_eq_false_iff, ne_eq,
    ite_not]

/-- The nine items of READ STATUS, byte by byte (R168, R180). -/
theorem statusBytes_eq (s : State) : statusBytes s =
    [if s.stc.station = .unjoined then 0 else if s.stc.station = .listening then 1
        else if s.stc.station = .announcing then 2 else if s.stc.station = .active then 3
        else if s.stc.station = .leaving then 4 else 5,
      if s.cgm.congested = true then 1 else 0, byteOf s.rxp.fill,
      byteOf s.rxp.urgent.length, byteOf s.rxp.normal.length, byteOf s.notices.length,
      byteOf (allHandles.filter fun h => s.txq.entries[h].isNone).length,
      s.lastSender.elim 255 byteOf,
      byteOf ((if s.notices = [] then 0 else 1) + (if s.rxp.urgent = [] then 0 else 2)
        + (if s.stc.config.deliveryThreshold ≤ s.rxp.normal.length then 4 else 0)
        + (if s.rxp.stale = true then 8 else 0) + (if s.hpt.attn = true then 16 else 0))] := by
  unfold statusBytes
  rw [byteOf_stationCode, attnCauses_number]
  cases s.lastSender <;> rfl

/-- The answer data of READ PEER, byte by byte: an absent timer or sequence is 0 (R98, R180). -/
theorem peerBytes_eq (r : Peer) : peerBytes r =
    [if r.present = true then 1 else 0, byteOf (r.silence.getD 0 / 256), byteOf (r.silence.getD 0),
      if r.paused = true then 1 else 0, byteOf (r.pauseTimer.getD 0 / 256), byteOf (r.pauseTimer.getD 0), r.nextSeq,
      if r.lastReceived = none then 0 else 1, r.lastReceived.getD 0] := by
  rw [peerBytes, optionalByte_eq]
  rfl

/-! ### NOP, READ STATUS and READ PEER (R98, R163, R168) -/

theorem exec_nop_answers {s : State} (hp : portTakes .nop s = true) :
    exec .nop s = .next (settleAttn (answered .nop [0x00] s)) :=
  next_onPort_answers hp rfl rfl

theorem exec_readStatus_answers {s : State} (hp : portTakes .readStatus s = true) :
    exec .readStatus s = .next (settleAttn (answered .readStatus (0x00 :: statusBytes s) s)) :=
  next_onPort_answers hp rfl rfl

theorem exec_readPeer_answers {b : Byte} {s u : State} {answer : List Byte}
    (hp : portTakes (.readPeer b) s = true) (he : cmdReadPeer b s = (u, answer)) :
    exec (.readPeer b) s = .next (settleAttn (answered (.readPeer b) answer u)) :=
  next_onPort_answers hp rfl he

theorem cmdReadPeer_badStation {b : Byte} (h : 32 ≤ b.toNat) (s : State) : cmdReadPeer b s = (s, [0x03]) := by
  simp only [cmdReadPeer, recordOf_eq_none.2 h, answerOf, AnswerCode.byte]

theorem cmdReadPeer_record (p : Fin 32) (s : State) :
    cmdReadPeer (byteOf p.val) s = (s, 0x00 :: peerBytes s.ptb.records[p]) := by
  simp only [cmdReadPeer, recordOf_byteOf, doneWith, AnswerCode.byte]

/-- Settles O11, by command; READ PEER by whether its parameter names a record. -/
theorem statusAndPeerReportsChangeNothing : Obligations.StatusAndPeerReportsChangeNothing := by
  refine ⟨fun s => ⟨fun hp => ?nop, fun hp => ?readStatus⟩,
    fun s b hp => ⟨fun hb => ?badStation, fun p r hb hr => ?record⟩⟩
  case nop => exact exec_nop_answers hp
  case readStatus =>
    rw [← statusBytes_eq]
    exact exec_readStatus_answers hp
  case badStation => exact exec_readPeer_answers hp (cmdReadPeer_badStation hb s)
  case record =>
    subst hb hr
    rw [← peerBytes_eq]
    exact exec_readPeer_answers hp (cmdReadPeer_record p s)

end Sys2Proof.Machine

/-! PROOFS. What a step can do (R16 to R21, R161 to R184): each command is a host command's row, an event taken out of reset, an
idle-time event or an event on the pins; so a law that the port does not touch is kept by every step once these keep it. -/

namespace Sys2Proof.Machine

/-! ### The kinds of commands -/

/-- What an event that is taken only out of reset does (R182). -/
def runningEvent : Instr → Option (State → State)
  | .startBit => some startBitBegins
  | .startBitGlitch => some startBitRejected
  | .characterComplete value stop => some (characterCompletes value stop)
  | .holdingRelease => some holdingEnds
  | .receiverArmed => some receiverArms
  | .ltxStartBit => some startBitDue
  | .lastStopBitEnd => some lastStopBitEnds
  | .ldeRelease => some ldeReleases
  | .echoLoss => some echoLossFound
  | .tick => some tickEvent
  | .silenceTimerExpiry p => some (silenceExpires p)
  | .pauseTimerExpiry p => some (pauseExpires p)
  | .beaconTimerExpiry => some beaconTimerEnds
  | .refreshTimerExpiry => some refreshTimerEnds
  | .deliveryTimerExpiry => some deliveryTimerEnds
  | _ => none

/-- The value of an idle-time event, and what its recipient does (R21). -/
def idleEvent (c : ConfigRecord) : Instr → Option (Nat × (State → State))
  | .idleGapLimit => some (Config.gapEvent, receiveGap)
  | .replyStart => some (Config.replyEvent, replyStarts)
  | .replyWindowEnd => some (c.replyWindow, windowEnds)
  | .slotOpening k => some (k, ladderAtIdle)
  | .listeningRoundEnd k => some (k, listeningAtIdle)
  | _ => none

/-- What an event on the pins of the port, on NRESET or on the supplies does (R161, R182, R183). -/
def pinEvent : Instr → Option (State → State)
  | .hcsFall => some fun s => if s.pins.hcsHigh then fallHcs s else s
  | .hcsRise lrx => some fun s => if s.pins.hcsHigh then s else riseHcs lrx s
  | .hckEdge rising hdi => some fun s => if portLive s then (if rising then clockRise hdi s else clockFall s) else s
  | .hardwareReset => some nresetFalls
  | .nresetRelease lrx => some (nresetRises lrx)
  | .vddOutOfRange => some vddFalls
  | .vddReturn lrx => some (vddReturns lrx)
  | .vioFall lrx => some (vioFalls lrx)
  | .vioReturn => some vioReturns
  | _ => none

theorem exec_hostCommand {i : Instr} {c : HostCommand} (h : i.hostCommand = some c) (s : State) :
    exec i s = .next (settleAttn (onPort c (effectOf c) s)) := by
  cases i <;> cases h <;> rfl

theorem exec_running {i : Instr} {f : State → State} (h : runningEvent i = some f) (s : State) :
    exec i s = .next (settleAttn (whenRunning f s)) := by
  cases i <;> cases h <;> rfl

theorem exec_idle {i : Instr} {s : State} {k : Nat} {f : State → State} (h : idleEvent s.stc.config i = some (k, f)) :
    exec i s = .next (settleAttn (atIdle k f s)) := by
  cases i <;> cases h <;> rfl

theorem exec_pin {i : Instr} {f : State → State} (h : pinEvent i = some f) (s : State) :
    exec i s = .next (settleAttn (f s)) := by
  cases i <;> cases h <;> rfl

/-- Every command is of one of the four kinds. -/
theorem instr_kinds (c : ConfigRecord) (i : Instr) :
    (∃ h, i.hostCommand = some h) ∨ (∃ f, runningEvent i = some f) ∨ (∃ e, idleEvent c i = some e) ∨
      ∃ f, pinEvent i = some f := by
  cases i <;> simp [Instr.hostCommand, runningEvent, idleEvent, pinEvent]

/-! ### Laws that the port does not touch -/

/-- `t` is `s` but for the pins, the host port and the model's own fields. -/
def SameBlocks (s t : State) : Prop :=
  t = { s with pins := t.pins, hpt := t.hpt, choices := t.choices, pending := t.pending }

/-- The law reads nothing of the pins, the host port or the model's own fields, and every event of the part keeps it: each
host command's effect, the resets, a bit time, the events taken out of reset and the idle-time events. -/
structure KeptByEvents (Law : State → Prop) : Prop where
  port : ∀ s t, SameBlocks s t → Law s → Law t
  effect : ∀ (c : HostCommand) (s : State), c.wellFormed = true → Law s → Law (effectOf c s).1
  soft : ∀ lrx s, Law s → Law (softReset lrx s)
  hard : ∀ lrx s, Law s → Law (hardReset lrx s)
  bitTime : ∀ s, Law s → Law (setLine (takeBitTime s).lif.afterBitTime s)
  event : ∀ (i : Instr) (f : State → State) (s : State), runningEvent i = some f → Law s → Law (f s)
  idle : ∀ (i : Instr) (k : Nat) (f : State → State) (s : State), idleEvent s.stc.config i = some (k, f) →
    idleReaches k s = true → Law s → Law (f (setIdle k s))

/-- Only the bytes of a well-formed command are read as one (R162). -/
theorem readCommand_wellFormed {bs : List Byte} {c : HostCommand} (h : readCommand bs = some c) : c.wellFormed = true := by
  unfold readCommand at h
  split at h
  · cases h
  · split at h <;> (try split at h) <;> cases h <;> simp_all [HostCommand.wellFormed]

theorem settleAttn_sameBlocks (s : State) : SameBlocks s (settleAttn s) := rfl

theorem executeCommand_sameBlocks (c : HostCommand) (effect : Effect) (s : State) :
    SameBlocks (effect s).1 (executeCommand c effect s) := rfl

namespace KeptByEvents

variable {Law : State → Prop}

theorem executes (k : KeptByEvents Law) {c : HostCommand} (hc : c.wellFormed = true) {s : State} (h : Law s) :
    Law (executeCommand c (effectOf c) s) :=
  k.port _ _ (executeCommand_sameBlocks c _ s) (k.effect c s hc h)

theorem onPort (k : KeptByEvents Law) (c : HostCommand) {s : State} (h : Law s) : Law (onPort c (effectOf c) s) := by
  unfold Machine.onPort portTakes
  split
  · rename_i hp
    simp only [Bool.and_eq_true] at hp
    exact k.executes hp.1.2 h
  · exact h

theorem clockRise (k : KeptByEvents Law) (hdi : Bool) {s : State} (h : Law s) : Law (clockRise hdi s) := by
  have taking : Law (takeBit hdi s) := by
    unfold takeBit
    dsimp only
    split
    · exact k.port s _ rfl h
    · split
      · rename_i hc
        exact k.executes (readCommand_wellFormed hc) h
      · exact k.port s _ rfl h
  unfold Machine.clockRise
  split
  case h_2 => exact taking
  case h_3 => exact taking
  all_goals exact k.port s _ rfl h

theorem clockFall (k : KeptByEvents Law) {s : State} (h : Law s) : Law (clockFall s) := by
  unfold Machine.clockFall
  split <;> exact k.port s _ rfl h

theorem endTransaction (k : KeptByEvents Law) (lrx : Bool) {s : State} (h : Law s) : Law (endTransaction lrx s) := by
  unfold Machine.endTransaction
  refine k.port (if s.hpt.softResetDue then softReset lrx s else s) _ rfl ?_
  split
  · exact k.soft lrx s h
  · exact h

theorem riseHcs (k : KeptByEvents Law) (lrx : Bool) {s : State} (h : Law s) : Law (riseHcs lrx s) := by
  unfold Machine.riseHcs
  dsimp only
  have high := k.port s { s with pins := { s.pins with hcsHigh := true } } rfl h
  split
  · exact k.endTransaction lrx high
  · exact high

theorem vioFalls (k : KeptByEvents Law) (lrx : Bool) {s : State} (h : Law s) : Law (vioFalls lrx s) := by
  unfold Machine.vioFalls
  split
  · refine k.port _ _ rfl ?_
    split
    · exact k.endTransaction lrx h
    · exact h
  · exact h

theorem intoReset (k : KeptByEvents Law) {s t : State} (h : Law t) : Law (intoReset s t) := by
  unfold Machine.intoReset
  split
  · exact k.hard false t h
  · exact h

theorem outOfReset (k : KeptByEvents Law) (lrx : Bool) {s : State} (h : Law s) : Law (outOfReset lrx s) := by
  unfold Machine.outOfReset
  split
  · exact k.hard lrx s h
  · exact h

/-- The events on the pins keep such a law: they move the port alone, execute a command, or reset the part. -/
theorem pin (k : KeptByEvents Law) {i : Instr} {f : State → State} (hf : pinEvent i = some f) {s : State} (h : Law s) :
    Law (f s) := by
  cases i <;> cases hf
  case hcsFall =>
    dsimp only [fallHcs]
    split_ifs <;> exact k.port s _ rfl h
  case hcsRise lrx =>
    dsimp only
    split_ifs
    · exact h
    · exact k.riseHcs lrx h
  case hckEdge rising hdi =>
    dsimp only
    split_ifs
    · exact k.clockRise hdi h
    · exact k.clockFall h
    · exact h
  case hardwareReset =>
    unfold nresetFalls
    split
    · exact h
    · exact k.intoReset (k.port s _ rfl h)
  case nresetRelease lrx =>
    unfold nresetRises
    split
    · exact k.outOfReset lrx (k.port s _ rfl h)
    · exact h
  case vddOutOfRange =>
    unfold vddFalls
    split
    · exact k.intoReset (k.port s _ rfl h)
    · exact h
  case vddReturn lrx =>
    unfold vddReturns
    split
    · exact h
    · exact k.outOfReset lrx (k.port s _ rfl h)
  case vioFall lrx => exact k.vioFalls lrx h
  case vioReturn =>
    unfold vioReturns
    dsimp only
    split_ifs <;> exact k.port s _ rfl h

/-- A command keeps such a law. -/
theorem exec (k : KeptByEvents Law) {i : Instr} {s t : State} (h : Law s) (ht : Machine.exec i s = .next t) : Law t := by
  rcases instr_kinds s.stc.config i with ⟨c, hc⟩ | ⟨f, hf⟩ | ⟨⟨n, f⟩, hf⟩ | ⟨f, hf⟩
  · rw [exec_hostCommand hc] at ht
    cases ht
    exact k.port _ _ rfl (k.onPort c h)
  · rw [exec_running hf] at ht
    cases ht
    refine k.port _ _ rfl ?_
    unfold whenRunning
    split
    · exact k.event i f s hf h
    · exact h
  · rw [exec_idle hf] at ht
    cases ht
    refine k.port _ _ rfl ?_
    unfold atIdle
    split
    · rename_i hk
      exact k.idle i n f s hf hk h
    · exact h
  · rw [exec_pin hf] at ht
    cases ht
    exact k.port _ _ rfl (k.pin hf h)

/-- A bit time on the empty queue moves the Line Interface's counts, and besides them the model's own fields alone. -/
theorem idleStep (k : KeptByEvents Law) {s : State} (h : Law s) : Law (idleStep s) := by
  unfold Machine.idleStep whenRunning
  split
  · refine k.port (setLine (takeBitTime s).lif.afterBitTime s) _ ?_ (k.bitTime s h)
    unfold bitTimePasses
    dsimp only
    rw [freeOrder_state]
    simp [SameBlocks, setLine]
  · exact h

/-- A law that every event keeps is kept by every step. -/
theorem step (k : KeptByEvents Law) : KeptByStep Law := by
  intro s t h ht
  rcases step_cases ht with ⟨i, rest, -, hi⟩ | ⟨-, rfl⟩
  · exact k.exec (k.port s { s with pending := rest } rfl h) hi
  · exact k.idleStep h

end KeptByEvents

end Sys2Proof.Machine

/-! PROOFS. The moves that every event is made of, outside the Line Interface, the Frame Receiver, the Reply Unit and the peer
records: a law of the other blocks that each move keeps is kept by every step. -/

namespace Sys2Proof.Machine

/-! ### Moves -/

/-- `t` is `s` but for the blocks and fields that no move below is about. -/
def Aside (s t : State) : Prop :=
  t = { s with
    pins := t.pins, lif := t.lif, frx := t.frx, rpu := t.rpu, ptb := t.ptb, hpt := t.hpt, choices := t.choices,
    pending := t.pending }

/-- One move of the blocks that hold last sender, queue, pool, monitor, station, notices and counters. `heard` says which
good frames the event may store. Each constructor is an operation of the model, under what its callers have checked. -/
inductive Move (heard : GoodFrame → Prop) : State → State → Prop
  | aside (s t : State) (h : Aside s t) : Move heard s t
  | count (s : State) (c : Counters) (h : CountersLaw s.counters → CountersLaw c) : Move heard s { s with counters := c }
  | inform (s : State) (n : Notice) (h : n.kind.isCompletion = false) : Move heard s (offerNotice n s)
  | sender (s : State) (l : Option Nat)
      (h : ∀ n, l = some n → joined s = true ∧ (n < s.stc.config.ladderSize ∨ n = s.stc.config.ownNumber)) :
      Move heard s (setLastSender l s)
  | queue (s : State) (q : TransmitQueue) (h : q.entries = s.txq.entries) : Move heard s { s with txq := q }
  | rework (s : State) (h : Fin 16) (e e' : Entry) (he : s.txq.entries[h] = some e) (hs : e.state.isComplete = false)
      (hs' : e'.state.isComplete = false) (hp : e'.payload = e.payload) : Move heard s (setEntry h (some e') s)
  | complete (s : State) (h : Fin 16) (e e' : Entry) (o : EntryOutcome) (he : s.txq.entries[h] = some e)
      (hs : e.state.isComplete = false) (hp : e'.payload = e.payload) : Move heard s (completeEntry h e' o s)
  | repause (s : State) (p : Fin 32) (b : Bool) : Move heard s (pauseEntries p b s)
  | submit (s : State) (h : Fin 16) (dest : Byte) (payload : List Byte) (hf : s.txq.entries[h] = none)
      (hl : payload.length ≤ 60) : Move heard s (takeEntry h dest payload s)
  | cancel (s : State) (h : Fin 16) (e : Entry) (he : s.txq.entries[h] = some e) (hs : e.state.isComplete = false) :
      Move heard s (setEntry h none s)
  | readNotice (s : State) (n : Notice) (rest : List Notice) (h : s.notices = n :: rest) :
      Move heard s (freeEntry n { s with notices := rest })
  | fill (s : State) (p : ReceivePool) (h : PoolLaw s.rxp → PoolLaw p)
      (hr : ∀ r ∈ p.urgent ++ p.normal, r ∈ s.rxp.urgent ++ s.rxp.normal ∨ ∃ f, heard f ∧ r.payload = f.payload) :
      Move heard s (judgeFill (setPool p s))
  | deliver (s : State) (p : ReceivePool)
      (h : p.urgent = s.rxp.urgent ∧ p.normal = s.rxp.normal ∧ p.fill = s.rxp.fill) : Move heard s (setPool p s)
  | announced (s : State) (kind : FrameKind) (o : OwnOutcome) : Move heard s (monitorOutcome kind o s)
  | refresh (s : State) (h : timerExpires s.cgm.refreshTimer = true) : Move heard s (refreshExpires s)
  | refreshTick (s : State) (h : timerExpires s.cgm.refreshTimer = false) :
      Move heard s (setMonitor { s.cgm with refreshTimer := timerAfterTick s.cgm.refreshTimer } s)
  | withdraw (s : State) : Move heard s (monitorWithdraw s)
  | join (s : State) (hs : s.stc.station = .unjoined) (hf : joinFault s.stc.config = none) : Move heard s (joinStation s)
  | announce (s : State) (h : s.stc.station = .listening) : Move heard s (enterAnnouncing s)
  | activate (s : State) (h : s.stc.station = .announcing) : Move heard s (monitorEntersActive (setStation .active none s))
  | station (s : State) (st : StationState) (hst : st ≠ .active ∧ st ≠ .listening)
      (hq : s.stc.station = .active →
        s.cgm.announced = false ∧ s.cgm.announcement = none ∧ s.cgm.refreshTimer = none)
      (hl : st = .unjoined → s.lastSender = none) (hj : st ≠ .unjoined → joined s = true) :
      Move heard s (setStation st none s)

/-- Moves, one after the other. -/
abbrev Moves (heard : GoodFrame → Prop) : State → State → Prop := Relation.ReflTransGen (Move heard)

section Operations

variable {heard : GoodFrame → Prop} {s t : State}

theorem Moves.of_aside (h : Aside s t) : Moves heard s t := .single (.aside s t h)

theorem Moves.after_aside {u : State} (hm : Moves heard u t) (h : Aside s u) : Moves heard s t :=
  (Moves.of_aside h).trans hm

/-! ### Counters -/

/-- Raising one counter, or several, keeps all of them in range (R175). -/
theorem CountersLaw.raise {c c' : Counters} (hv : List.Forall₂ (fun n' n => n' = n ∨ n' = countUp n) c'.values c.values)
    (h : CountersLaw c) : CountersLaw c' := by
  unfold CountersLaw at h ⊢
  generalize c'.values = ns' at hv ⊢
  generalize c.values = ns at hv h
  induction hv with
  | nil => simp
  | cons hd _ ih =>
    simp only [List.mem_cons, forall_eq_or_imp] at h ⊢
    refine ⟨?_, ih h.2⟩
    rcases hd with rfl | rfl
    · exact h.1
    · exact oneMore_le h.1

theorem CountersLaw.countBad {c : Counters} (cause : BadCause) (h : CountersLaw c) : CountersLaw (c.countBad cause) :=
  h.raise (by cases cause <;> simp [Counters.values, Counters.countBad])

/-- A count is raised, and fields that no move is about change with it. -/
theorem Moves.of_count (h : Aside { s with counters := t.counters } t)
    (hc : CountersLaw s.counters → CountersLaw t.counters) : Moves heard s t :=
  (Relation.ReflTransGen.single (.count s _ hc)).tail (.aside _ _ h)

theorem Moves.of_raise (h : Aside { s with counters := t.counters } t)
    (hv : List.Forall₂ (fun n' n => n' = n ∨ n' = countUp n) t.counters.values s.counters.values) : Moves heard s t :=
  .of_count h (.raise hv)

/-! ### Access Ladder and Station Control -/

theorem ladderUnknown_moves : Moves heard s (ladderUnknown s) := by
  unfold ladderUnknown
  split
  · exact .single (.sender s none (by simp))
  · exact .refl

theorem learned_moves : Moves heard s (learned s) := by
  unfold learned
  split
  · rename_i h
    exact .single (.announce s h)
  · exact .refl

theorem ladderHeard_moves {n : Nat} (hn : n < s.stc.config.ladderSize ∨ n = s.stc.config.ownNumber) :
    Moves heard s (ladderHeard n s) := by
  unfold ladderHeard
  split
  · rename_i hj
    exact .trans (.single (.sender s (some n) (by rintro _ ⟨⟩; exact ⟨hj, hn⟩))) learned_moves
  · exact .refl

theorem ladderOutcome_moves (kind : FrameKind) (o : OwnOutcome) : Moves heard s (ladderOutcome kind o s) := by
  unfold ladderOutcome
  split
  · split
    · rename_i h
      simp only [Bool.and_eq_true] at h
      exact .single (.sender s _ (by rintro _ ⟨⟩; exact ⟨h.1, .inr rfl⟩))
    · exact .refl
  · exact ladderUnknown_moves
  · exact ladderUnknown_moves

/-- The arrival in UNJOINED from a state whose monitor has nothing pending (R142, R158). -/
theorem leaveCompletion_moves (hq : s.stc.station = .active →
    s.cgm.announced = false ∧ s.cgm.announcement = none ∧ s.cgm.refreshTimer = none) :
    Moves heard s (leaveCompletion s) := by
  have sender : Moves heard s (setLastSender none s) := .single (.sender s none (by simp))
  have station : Moves heard (setLastSender none s) (setStation .unjoined none (setLastSender none s)) :=
    .single (.station _ _ (by simp) hq (fun _ => rfl) (by simp))
  have table : Moves heard (setStation .unjoined none (setLastSender none s))
      (clearTable (setStation .unjoined none (setLastSender none s))) := .of_aside rfl
  have beacon := table.tail (.queue _ { s.txq with beacon := .none } rfl)
  exact ((sender.trans station).trans beacon).tail (.inform _ (plainNotice .left 0) rfl)

theorem attemptEnded_moves : Moves heard s (attemptEnded s) := by
  unfold attemptEnded
  split
  · rename_i h
    exact leaveCompletion_moves (by simp [h])
  · exact .refl

theorem afterWait_moves {before : State} (h : Moves heard s t) : Moves heard s (afterWait before t) := by
  unfold afterWait
  split
  · exact h.trans attemptEnded_moves
  · exact h

theorem enterHalted_moves (kind : FrameKind) (h : joined s = true) : Moves heard s (enterHalted kind s) := by
  have withdraw : Moves heard s (monitorWithdraw s) := .single (.withdraw s)
  exact (withdraw.tail (.station _ .halted (by simp) (fun _ => ⟨rfl, rfl, rfl⟩) (by simp) (fun _ => h))).tail
    (.inform _ _ rfl)

theorem receives_joined (h : receives s = true) : joined s = true := by
  unfold receives at h
  unfold joined
  cases hs : s.stc.station <;> simp_all

theorem stationOutcome_moves (own : OwnFrame) (o : OwnOutcome) (ended : Bool) :
    Moves heard s (stationOutcome own o ended s) := by
  unfold stationOutcome
  split
  · split
    · rename_i h
      exact enterHalted_moves _ (receives_joined h)
    · exact .refl
  · split
    · exact attemptEnded_moves
    · exact .refl
  · split
    · exact attemptEnded_moves
    · split
      · rename_i h
        simp only [Bool.and_eq_true, decide_eq_true_eq] at h
        exact (Relation.ReflTransGen.single (.activate s h.2)).tail (.inform _ _ rfl)
      · exact .refl

/-! ### Peer Table -/

/-- A record replaced, its pause perhaps changed, and the notice of it (R99, R102, R104). -/
theorem peer_moves (p : Fin 32) (r : Peer) (b : Bool) {n : Notice} (hn : n.kind.isCompletion = false) :
    Moves heard s (offerNotice n (setPeer p r s)) ∧ Moves heard s (offerNotice n (pauseEntries p b (setPeer p r s))) := by
  have record : Moves heard s (setPeer p r s) := .of_aside rfl
  exact ⟨record.tail (.inform _ n hn), (record.tail (.repause _ p b)).tail (.inform _ n hn)⟩

theorem refreshPresence_moves (p : Fin 32) : Moves heard s (refreshPresence p s) := by
  unfold refreshPresence
  dsimp only
  split
  · exact .of_aside rfl
  · exact (peer_moves p _ true rfl).1

theorem pausePeer_moves (p : Fin 32) (cause : PauseCause) : Moves heard s (pausePeer p cause s) := by
  unfold pausePeer
  dsimp only
  split
  · exact .of_aside rfl
  · exact (peer_moves p _ true (by cases cause <;> rfl)).2

theorem resumePeer_moves (p : Fin 32) (cause : ResumeCause) : Moves heard s (resumePeer p cause s) := by
  unfold resumePeer
  dsimp only
  split
  · exact (peer_moves p _ false (by cases cause <;> rfl)).2
  · exact .refl

theorem losePeer_moves (p : Fin 32) : Moves heard s (losePeer p s) := by
  unfold losePeer
  dsimp only
  split
  · exact (peer_moves p _ false rfl).2
  · exact (peer_moves p _ false rfl).1

theorem kindClaims_moves (p : Fin 32) (f : GoodFrame) : Moves heard s (kindClaims p f s) := by
  have hello : Moves heard s (helloPeer p s) := (resumePeer_moves p .hello).after_aside rfl
  unfold kindClaims
  split
  · exact pausePeer_moves p _
  · exact resumePeer_moves p _
  · split
    · exact hello
    · exact .refl
  · exact .refl
  · exact .refl

theorem peerFrame_moves (f : GoodFrame) : Moves heard s (peerFrame f s) := by
  unfold peerFrame
  split
  · split
    · exact (refreshPresence_moves _).trans (kindClaims_moves _ f)
    · exact .refl
  · exact .refl

theorem peerFull_moves (dest : Byte) : Moves heard s (peerFull dest s) := by
  unfold peerFull
  split
  · split
    · exact pausePeer_moves _ _
    · exact .refl
  · exact .refl

theorem peerOutcome_moves (o : OwnOutcome) : Moves heard s (peerOutcome o s) := by
  unfold peerOutcome
  split
  · exact .of_aside rfl
  · exact .refl

theorem beaconExpires_moves : Moves heard s (beaconExpires s) := by
  have table : Moves heard s { s with ptb := { s.ptb with beaconTimer := none } } := .of_aside rfl
  unfold beaconExpires
  dsimp only
  split
  · exact table.tail (.queue _ _ rfl)
  · exact table

theorem expirePeer_moves (before : Vector Peer 32) (p : Fin 32) : Moves heard s (expirePeer before s p) := by
  unfold expirePeer
  split
  · exact losePeer_moves p
  · split
    · exact resumePeer_moves p _
    · exact .refl

theorem tickRecords_moves : Moves heard s (tickRecords s) := by
  have fold : ∀ (before : Vector Peer 32) (ps : List (Fin 32)) (u : State),
      Moves heard u (ps.foldl (expirePeer before) u) := by
    intro before ps
    induction ps with
    | nil => exact fun u => .refl
    | cons p ps ih => exact fun u => (expirePeer_moves before p).trans (ih _)
  unfold tickRecords
  dsimp only
  rw [freeOrder_state]
  exact (fold _ _ _).after_aside rfl

/-! ### Transmit Queue -/

/-- An attempt that has failed completes its entry or returns it to the queue (R61, R65, R75). -/
theorem failAttempt_moves {h : Fin 16} {e e' : Entry} (he : s.txq.entries[h] = some e) (hs : e.state.isComplete = false)
    (hp : e'.payload = e.payload) (limit : Option EntryOutcome) : Moves heard s (failAttempt h e' limit s) := by
  have complete := fun o => Relation.ReflTransGen.single (Move.complete (heard := heard) s h e e' o he hs hp)
  unfold failAttempt
  split
  · exact complete _
  · split
    · exact complete _
    · refine .single (.rework s h e _ he hs ?_ hp)
      dsimp only
      split <;> rfl

theorem entryOutcome_moves {h : Fin 16} {e : Entry} (he : s.txq.entries[h] = some e) (hs : e.state = .onLine)
    (o : OwnOutcome) : Moves heard s (entryOutcome h e o s) := by
  have live : e.state.isComplete = false := by rw [hs]; rfl
  have current : Moves heard s (setCurrent none s) := .single (.queue s _ rfl)
  unfold entryOutcome entryClean
  dsimp only
  split
  · split
    · exact (Relation.ReflTransGen.single (.complete s h e e _ he live rfl)).tail (.queue _ _ rfl)
    · exact (Relation.ReflTransGen.single (.rework s h e { e with state := .awaitingReply } he live rfl rfl)).tail
        (.aside _ _ rfl)
  · exact current.trans (failAttempt_moves (s := setCurrent none s) he live (by rfl) _)
  · exact current.trans (failAttempt_moves (s := setCurrent none s) he live (by rfl) _)

theorem currentOutcome_moves (o : OwnOutcome) : Moves heard s (currentOutcome o s) := by
  have current : Moves heard s (setCurrent none s) := .single (.queue s _ rfl)
  unfold currentOutcome
  split
  · exact .refl
  · exact current
  · split
    · exact current.tail (.queue _ _ rfl)
    · exact current
    · exact current
  · split
    · rename_i he
      split
      · rename_i hs
        exact entryOutcome_moves he hs o
      · exact .refl
    · exact .refl

theorem replyOutcome_moves (h : Fin 16) (o : ReplyOutcome) : Moves heard s (replyOutcome h o s) := by
  have current : Moves heard s (setCurrent none s) := .single (.queue s _ rfl)
  unfold replyOutcome
  split
  · exact .refl
  · rename_i e he
    split
    · rename_i hs
      have live : e.state.isComplete = false := by rw [hs]; rfl
      dsimp only
      split
      · exact current.tail (.complete _ h e e _ he live rfl)
      · exact current.tail (.complete _ h e e _ he live rfl)
      · exact current.trans (failAttempt_moves (s := setCurrent none s) he live (by rfl) _)
      · exact current.trans (failAttempt_moves (s := setCurrent none s) he live (by rfl) _)
    · exact .refl

/-- A candidate waits, so it is not COMPLETE (R58). -/
theorem isCandidate_waiting {q : TransmitQueue} {h : Fin 16} {e : Entry} (he : q.entries[h] = some e)
    (hc : isCandidate q h = true) : e.state = .waiting := by
  unfold isCandidate at hc
  rw [he] at hc
  simp only [Bool.and_eq_true, decide_eq_true_eq] at hc
  exact hc.1

theorem olderHandle_fold (q : TransmitQueue) (hs : List (Fin 16)) (best : Option (Fin 16)) (h : Fin 16)
    (hb : hs.foldl (olderHandle q) best = some h) : best = some h ∨ h ∈ hs := by
  induction hs generalizing best with
  | nil => exact .inl hb
  | cons k hs ih =>
    rcases ih _ hb with h' | h'
    · unfold olderHandle at h'
      split at h'
      · cases h'; simp
      · split at h' <;> cases h' <;> simp
    · exact .inr (List.mem_cons_of_mem _ h')

theorem oldestCandidate_isCandidate {q : TransmitQueue} {h : Fin 16} (ho : oldestCandidate q = some h) :
    isCandidate q h = true := by
  rcases olderHandle_fold q _ none h ho with h' | h'
  · cases h'
  · exact (List.mem_filter.1 h').2

/-- The queue chooses no entry but the oldest candidate (R58). -/
theorem chooseFrame_entry {h : Fin 16} (hc : chooseFrame s = some (.entry h)) :
    s.stc.station = .active ∧ s.txq.current = none ∧ oldestCandidate s.txq = some h := by
  unfold chooseFrame at hc
  split at hc
  · cases hc
  · rename_i hn
    split at hc
    · rename_i hs
      refine ⟨hs, by simpa using hn, ?_⟩
      split at hc
      · cases hc
      · split at hc
        · cases hc
        · simpa using hc
    · split at hc <;> cases hc
    · cases hc

theorem advanceSequence_moves (e : Entry) : Moves heard s (advanceSequence e s) := by
  unfold advanceSequence
  split
  · exact .refl
  · exact .of_aside rfl
  · exact .single (.queue s _ rfl)

theorem chosenTaken_moves {c : CurrentFrame}
    (hc : ∀ h e, c = .entry h → s.txq.entries[h] = some e → e.state.isComplete = false) :
    Moves heard s (chosenTaken c s) := by
  unfold chosenTaken
  split
  · split
    · rename_i e he
      exact ((Relation.ReflTransGen.single (.rework s _ e _ he (hc _ e rfl he) rfl rfl)).trans
        (advanceSequence_moves e)).tail (.queue _ _ rfl)
    · exact .refl
  · exact .single (.queue s _ rfl)

theorem withdrawEntry_moves (h : Fin 16) : Moves heard s (withdrawEntry s h) := by
  unfold withdrawEntry
  split
  · rename_i e he
    split
    · rename_i hq
      exact .single (.complete s h e e _ he (by cases hs : e.state <;> simp_all [EntryState.isQueued, EntryState.isComplete])
        rfl)
    · exact .refl
  · exact .refl

theorem withdrawAll_moves : Moves heard s (withdrawAll s) := by
  have fold : ∀ (hs : List (Fin 16)) (u : State), Moves heard u (hs.foldl withdrawEntry u) := by
    intro hs
    induction hs with
    | nil => exact fun u => .refl
    | cons h hs ih => exact fun u => (withdrawEntry_moves h).trans (ih _)
  exact fold _ s

/-! ### Receive Pool -/

theorem laneBlocks_append (rs : List Record) (r : Record) : laneBlocks (rs ++ [r]) = laneBlocks rs + r.blocks := by
  simp [laneBlocks]

theorem laneBlocks_cons (rs : List Record) (r : Record) : laneBlocks (r :: rs) = r.blocks + laneBlocks rs := by
  simp [laneBlocks]

/-- A record that fits joins its lane with its blocks (R114, R116). -/
theorem poolWith_law {c : ConfigRecord} {r : Record} {p : ReceivePool} (h : PoolLaw p)
    (hf : fits p r.payload.length = true) : PoolLaw (poolWith c r p) := by
  have room : p.fill + r.blocks ≤ 48 := of_decide_eq_true hf
  cases hw : r.watch with
  | none =>
    rw [poolWith_normal hw]
    exact ⟨by simp only [laneBlocks_append, h.fill_sum]; omega, room, h.urgent_watch, by
      simp only [List.mem_append, List.mem_singleton]
      rintro x (hx | rfl)
      · exact h.normal_watch x hx
      · exact hw⟩
  | some i =>
    rw [poolWith_urgent hw]
    exact ⟨by simp only [laneBlocks_append, h.fill_sum]; omega, room, by
      simp only [List.mem_append, List.mem_singleton]
      rintro x (hx | rfl)
      · exact h.urgent_watch x hx
      · simp [hw], h.normal_watch⟩

theorem poolWith_records {c : ConfigRecord} {r x : Record} {p : ReceivePool}
    (hx : x ∈ (poolWith c r p).urgent ++ (poolWith c r p).normal) : x ∈ p.urgent ++ p.normal ∨ x = r := by
  unfold poolWith at hx
  split at hx <;> simp only [List.mem_append, List.mem_singleton] at hx ⊢ <;> tauto

theorem storeFrame_moves {b : Bool} {f : GoodFrame} (hf : heard f) (hfit : fits s.rxp f.payload.length = true) :
    Moves heard s (storeFrame b f s) := by
  refine .single (.fill s _ (fun h => poolWith_law h hfit) fun x hx => ?_)
  rcases poolWith_records hx with hx | rfl
  · exact .inl hx
  · exact .inr ⟨f, hf, rfl⟩

theorem admitBroadcast_moves {f : GoodFrame} (hf : heard f) : Moves heard s (admitBroadcast f s) := by
  unfold admitBroadcast
  split
  · split
    · rename_i hfit
      exact storeFrame_moves hf hfit
    · exact .of_raise rfl (by simp [Counters.values])
  · exact .refl

/-! ### Reply Unit -/

theorem abandonReply_moves : Moves heard s (abandonReply s) := by
  rw [abandonReply_eq]
  exact .of_aside rfl

theorem endWait_moves (w : ReplyWait) (o : ReplyOutcome) : Moves heard s (endWait w o s) := by
  have absent : Moves heard s { s with rpu := { s.rpu with wait := none } } := .of_aside rfl
  unfold endWait
  dsimp only
  refine Relation.ReflTransGen.trans ?_ (replyOutcome_moves w.handle o)
  split
  · exact Moves.of_raise rfl (by simp [Counters.values])
  · exact absent.trans (peerFull_moves _)
  · exact absent
  · exact absent

theorem waitGood_moves (f : GoodFrame) : Moves heard s (waitGood f s) := by
  unfold waitGood
  split
  · exact endWait_moves _ _
  · exact .refl

theorem waitBad_moves : Moves heard s (waitBad s) := by
  unfold waitBad
  split
  · exact endWait_moves _ _
  · exact .refl

theorem waitNoise_moves : Moves heard s (waitNoise s) := by
  unfold waitNoise
  split
  · split
    · exact .refl
    · exact endWait_moves _ _
  · exact .refl

theorem handLead_moves : Moves heard s (handLead s) := by
  unfold handLead waitLead
  split
  · exact abandonReply_moves.trans (Moves.of_aside rfl)
  · exact abandonReply_moves

/-- The decision's store finds the room that the decision found (R80). -/
theorem acceptUnicast_moves {f : GoodFrame} (hf : heard f) : Moves heard s (acceptUnicast f s) := by
  have reply : ∀ (r : ReplyResult) (u : State), Moves heard u (createReply f r u) := by
    intro r u
    unfold createReply
    dsimp only
    split
    · split
      · exact .refl
      · exact .of_aside rfl
    · exact .of_aside rfl
  have received : Moves heard s (setLastReceived f.source f.seq s) := by
    unfold setLastReceived
    split
    · split
      · exact .of_aside rfl
      · exact .refl
    · exact .refl
  have decided : Moves heard s (applyDecision f (decision f s) s) := by
    unfold applyDecision
    split
    · exact .of_raise rfl (by simp [Counters.values])
    · rename_i hd
      refine received.trans (storeFrame_moves hf ?_)
      simp only [setLastReceived_frame]
      unfold decision at hd
      split_ifs at hd with _ hfit
      exact hfit
    · exact .refl
  unfold acceptUnicast
  split
  · exact decided.trans (reply _ _)
  · exact .refl

/-! ### Frame Receiver -/

theorem handNoise_moves : Moves heard s (handNoise s) := by
  have counted : Moves heard s { s with counters := { s.counters with noise := countUp s.counters.noise } } :=
    .of_raise rfl (by simp [Counters.values])
  exact ((counted.trans ladderUnknown_moves).trans abandonReply_moves).trans (afterWait_moves waitNoise_moves)

theorem handBad_moves (cause : BadCause) : Moves heard s (handBad cause s) := by
  have counted : Moves heard s { s with counters := s.counters.countBad cause } := .of_count rfl (.countBad cause)
  exact ((counted.trans ladderUnknown_moves).trans abandonReply_moves).trans (afterWait_moves waitBad_moves)

theorem handClash_moves (f : GoodFrame) : Moves heard s (handClash f s) := by
  have clash : Moves heard s (offerNotice (sourceNotice .numberClash f) s) := .single (.inform s _ rfl)
  unfold handClash
  dsimp only
  refine .trans ?_ (afterWait_moves (waitGood_moves f))
  split
  · exact clash
  · exact clash.trans (ladderHeard_moves (.inr rfl))

theorem handMismatch_moves (f : GoodFrame) : Moves heard s (handMismatch f s) := by
  unfold handMismatch
  split
  · exact (Relation.ReflTransGen.single (.inform s (sourceNotice .ladderMismatch f) rfl)).trans ladderUnknown_moves
  · exact .refl

theorem ladderFrame_moves (f : GoodFrame) : Moves heard s (ladderFrame f s) := by
  unfold ladderFrame
  split
  · rename_i h
    simp only [Bool.and_eq_true, decide_eq_true_eq] at h
    exact ladderHeard_moves (.inl h.2)
  · exact .refl

theorem handOthers_moves {f : GoodFrame} (hf : heard f) : Moves heard s (handOthers f s) := by
  unfold handOthers
  dsimp only
  refine .trans (((handMismatch_moves f).trans (ladderFrame_moves f)).trans (peerFrame_moves f)) ?_
  exact afterWait_moves (((waitGood_moves f).trans (acceptUnicast_moves hf)).trans (admitBroadcast_moves hf))

theorem handGood_moves {f : GoodFrame} (hf : heard f) : Moves heard s (handGood f s) := by
  have counted : Moves heard s { s with counters := { s.counters with goodFrames := countUp s.counters.goodFrames } } :=
    .of_raise rfl (by simp [Counters.values])
  unfold handGood
  dsimp only
  split
  · exact counted.trans (handClash_moves f)
  · exact counted.trans (handOthers_moves hf)

theorem handPassed_moves (a : Assembly) {f : GoodFrame} (hf : heard f) : Moves heard s (handPassed a f s) := by
  unfold handPassed
  split
  · split
    · rcases handSurvivor_cases f s with ⟨-, -, -, h⟩ | ⟨-, h⟩
      · exact h ▸ handClash_moves f
      · rw [h]
    · exact .refl
  · exact handGood_moves hf

theorem failFrame_moves (a : Assembly) (cause : BadCause) (next : FrameReceiver) :
    Moves heard s (failFrame a cause next s) := by
  have receiver : Moves heard s (setReceiver next s) := .of_aside rfl
  unfold failFrame
  dsimp only
  split
  · exact receiver
  · exact receiver.trans (handBad_moves cause)

/-- The good frame that a character of this part's frame in assembly could complete (R11). -/
def HeardIn (s : State) (f : GoodFrame) : Prop :=
  ∃ (a : Assembly) (value : Byte) (stop : Bool), s.frx = .inFrame a ∧ takeCharacter a value stop = .passes ∧
    goodFrameOf a = some f

theorem receiveCharacter_moves (value : Byte) (stop own : Bool) : Moves (HeardIn s) s (receiveCharacter value stop own s) := by
  unfold receiveCharacter
  split
  case h_1 =>
    unfold takeSync
    dsimp only
    split
    · split
      · exact .of_aside rfl
      · exact handLead_moves.after_aside rfl
    · exact handNoise_moves
  case h_2 a ha =>
    unfold takeInFrame
    split
    · exact .of_aside rfl
    · exact failFrame_moves _ _ _
    · exact failFrame_moves _ _ _
    · rename_i hpass
      unfold passFrame
      dsimp only
      split
      · rename_i f hf
        exact (handPassed_moves a ⟨a, value, stop, ha, hpass, hf⟩).after_aside rfl
      · exact .of_aside rfl
  case h_3 => exact .refl

theorem receiveGap_moves : Moves heard s (receiveGap s) := by
  unfold receiveGap
  split
  · exact .refl
  · exact failFrame_moves _ _ _
  · exact .of_aside rfl

/-! ### Line Interface -/

theorem compareEcho_moves (value : Byte) (stop : Bool) : Moves heard s (compareEcho value stop s) := by
  have collided : Moves heard s (collide s) := .of_raise rfl (by simp [Counters.values, collide])
  unfold compareEcho
  split
  · exact .refl
  · split
    · split
      · split
        · exact .of_aside rfl
        · exact collided
      · split
        · exact collided
        · exact collided
        · exact .refl
        · exact .refl
    · exact .refl

theorem requesterOutcome_moves (own : OwnFrame) (o : OwnOutcome) : Moves heard s (requesterOutcome own o s) := by
  unfold requesterOutcome
  split
  · exact currentOutcome_moves o
  · split
    · split
      · exact .of_aside rfl
      · exact .refl
    · exact .refl

theorem finishOwnFrame_moves : Moves heard s (finishOwnFrame s) := by
  unfold finishOwnFrame
  split
  · refine Moves.after_aside (u := setLine { s.lif with own := none } s) ?_ rfl
    unfold handOutcome
    dsimp only
    exact ((((ladderOutcome_moves _ _).trans (peerOutcome_moves _)).trans (requesterOutcome_moves _ _)).tail
      (.announced _ _ _)).trans (stationOutcome_moves _ _ _)
  · exact .refl

/-! ### Ticks -/

theorem tickRefresh_moves : Moves heard s (tickRefresh s) := by
  unfold tickRefresh
  split
  · rename_i h
    exact .single (.refresh s h)
  · rename_i h
    exact .single (.refreshTick s (by simpa using h))

theorem tickDelivery_moves : Moves heard s (tickDelivery s) := by
  unfold tickDelivery
  split
  · exact .single (.deliver s _ ⟨rfl, rfl, rfl⟩)
  · exact .single (.deliver s _ ⟨rfl, rfl, rfl⟩)

theorem tickBeacon_moves : Moves heard s (tickBeacon s) := by
  unfold tickBeacon
  split
  · exact beaconExpires_moves
  · exact .of_aside rfl

theorem tickEvent_moves : Moves heard s (tickEvent s) := by
  have boundary : Moves heard s (if s.lif.tickBase = 0 then s else takeBitTime s) := by
    split
    · exact .refl
    · rw [takeBitTime_eq]
      exact .of_aside rfl
  unfold tickEvent
  dsimp only
  refine boundary.trans ?_
  generalize (if s.lif.tickBase = 0 then s else takeBitTime s) = u
  exact Moves.after_aside (((tickRecords_moves.trans tickBeacon_moves).trans tickRefresh_moves).trans tickDelivery_moves)
    rfl

/-! ### The events of the part -/

/-- Every event taken out of reset is made of moves. -/
theorem runningEvent_moves {i : Instr} {f : State → State} (hf : runningEvent i = some f) (s : State) :
    Moves (HeardIn s) s (f s) := by
  have stop : ∀ u : State, Moves (HeardIn s) u (lastStopBitEnds u) := by
    intro u
    unfold lastStopBitEnds
    split
    · exact .of_aside rfl
    · exact .refl
  cases i <;> cases hf
  case startBit =>
    unfold startBitBegins
    split <;> exact .of_aside rfl
  case startBitGlitch =>
    unfold startBitRejected
    split <;> exact .of_aside rfl
  case characterComplete value stop =>
    unfold characterCompletes
    split
    · exact Moves.after_aside (((receiveCharacter_moves (s := setLine (s.lif.heard (receiverAfter stop) stop) s) _ _ _).trans
        (compareEcho_moves _ _)).trans finishOwnFrame_moves) rfl
    · exact .refl
  case holdingRelease =>
    unfold holdingEnds
    split <;> exact .of_aside rfl
  case receiverArmed =>
    unfold receiverArms
    split <;> exact .of_aside rfl
  case ltxStartBit =>
    rcases startBitDue_cases s with ⟨-, h⟩ | ⟨-, h⟩ <;> rw [h]
    · exact stop s
    · unfold sendCharacter
      split
      · split <;> exact .of_aside rfl
      · exact .refl
  case lastStopBitEnd => exact stop s
  case ldeRelease =>
    unfold ldeReleases
    split
    · exact finishOwnFrame_moves.after_aside rfl
    · exact .refl
  case echoLoss =>
    unfold echoLossFound
    split
    · exact finishOwnFrame_moves.after_aside rfl
    · exact .refl
  case tick => exact tickEvent_moves
  case silenceTimerExpiry p =>
    rcases silenceExpires_cases p s with ⟨-, h⟩ | ⟨-, h⟩
    · exact h ▸ losePeer_moves p
    · rw [h]
  case pauseTimerExpiry p =>
    rcases pauseExpires_cases p s with ⟨-, h⟩ | ⟨-, -, h⟩ | ⟨-, -, h⟩
    · rw [h]
    · exact h ▸ losePeer_moves p
    · exact h ▸ resumePeer_moves p _
  case beaconTimerExpiry =>
    unfold beaconTimerEnds
    split
    · exact beaconExpires_moves
    · exact .refl
  case refreshTimerExpiry =>
    unfold refreshTimerEnds
    split
    · rename_i h
      exact .single (.refresh s h)
    · exact .refl
  case deliveryTimerExpiry =>
    unfold deliveryTimerEnds
    split
    · exact .single (.deliver s _ ⟨rfl, rfl, rfl⟩)
    · exact .refl

theorem requestFrame_moves {c : CurrentFrame} (hc : chooseFrame s = some c) : Moves heard s (requestFrame c s) := by
  unfold requestFrame
  split
  · refine (chosenTaken_moves ?_).after_aside rfl
    rintro h e rfl he
    obtain ⟨-, -, ho⟩ := chooseFrame_entry hc
    rw [isCandidate_waiting he (oldestCandidate_isCandidate ho)]
    rfl
  · exact .refl

theorem sendReply_moves (r : PendingReply) : Moves heard s (sendReply r s) := by
  unfold sendReply
  split
  · refine .of_raise rfl ?_
    dsimp only
    split <;> simp [Counters.values]
  · exact .of_aside rfl

theorem windowEnds_moves : Moves heard s (windowEnds s) := by
  unfold windowEnds
  split
  · split
    · exact .refl
    · exact afterWait_moves (endWait_moves _ _)
  · exact .refl

/-- Every idle-time event is made of moves. -/
theorem idleEvent_moves {i : Instr} {k : Nat} {f : State → State} (hf : idleEvent s.stc.config i = some (k, f)) :
    Moves heard s (f (setIdle k s)) := by
  have idle : Moves heard s (setIdle k s) := by
    rw [setIdle_eq]
    unfold atIdleTime
    dsimp only
    split <;> exact .of_aside rfl
  refine idle.trans ?_
  generalize setIdle k s = u
  cases i <;> cases hf
  case idleGapLimit => exact receiveGap_moves
  case replyStart =>
    unfold replyStarts
    split
    · split
      · exact .refl
      · exact sendReply_moves _
    · exact .refl
  case replyWindowEnd => exact windowEnds_moves
  case slotOpening =>
    unfold ladderAtIdle slotOpens
    split
    · split
      · rename_i hc
        exact requestFrame_moves hc
      · exact .refl
    · exact .refl
  case listeningRoundEnd =>
    unfold listeningAtIdle
    split
    · rename_i hs _
      split
      · exact .single (.announce u hs)
      · exact .refl
    · exact .refl

/-! ### Host commands -/

theorem leaveStation_moves (hj : joined s = true) : Moves heard s (leaveStation s) := by
  have withdrawn : Moves heard s (monitorWithdraw (withdrawAll s)) := withdrawAll_moves.tail (.withdraw _)
  unfold leaveStation
  dsimp only
  split
  · refine withdrawn.tail (.station _ .leaving (by simp) (fun _ => ⟨rfl, rfl, rfl⟩) (by simp) fun _ => ?_)
    simpa [joined] using hj
  · exact withdrawn.trans (leaveCompletion_moves fun _ => ⟨rfl, rfl, rfl⟩)

/-- The pool after READ FRAME: the head of a lane is gone, with its blocks (R122). -/
theorem cmdReadFrame_moves : Moves heard s (cmdReadFrame s).1 := by
  unfold cmdReadFrame
  split
  · rename_i r rest _ hu
    refine .single (.fill s _ (fun h => ?_) fun x hx => .inl ?_)
    · have sum := h.fill_sum
      rw [hu, laneBlocks_cons] at sum
      exact ⟨by simp only [poolWithoutUrgent]; omega, by have := h.fill_le; simp only [poolWithoutUrgent]; omega,
        fun x hx => h.urgent_watch x (hu ▸ List.mem_cons_of_mem _ hx), h.normal_watch⟩
    · simp only [poolWithoutUrgent, List.mem_append, hu, List.mem_cons] at hx ⊢
      tauto
  · rename_i r rest hu hn
    refine .single (.fill s _ (fun h => ?_) fun x hx => .inl ?_)
    · have sum := h.fill_sum
      rw [hn, laneBlocks_cons] at sum
      exact ⟨by simp only [poolWithoutNormal]; omega, by have := h.fill_le; simp only [poolWithoutNormal]; omega,
        h.urgent_watch, fun x hx => h.normal_watch x (hn ▸ List.mem_cons_of_mem _ hx)⟩
    · simp only [poolWithoutNormal, List.mem_append, hn, List.mem_cons] at hx ⊢
      tauto
  · exact .refl

theorem cmdFlushPool_moves : Moves heard s (cmdFlushPool s).1 := by
  unfold cmdFlushPool
  split
  · exact .refl
  · exact .single (.fill s _ (fun _ => ⟨rfl, by simp [ReceivePool.afterReset], by simp [ReceivePool.afterReset],
      by simp [ReceivePool.afterReset]⟩) (by simp [ReceivePool.afterReset]))

theorem cmdSubmit_moves {dest length : Byte} {payload : List Byte}
    (hw : (HostCommand.submit dest length payload).wellFormed = true) :
    Moves heard s (cmdSubmit dest length payload s).1 := by
  have short : payload.length ≤ 60 := by
    have h : payload.length = payloadBytes length := by simpa [HostCommand.wellFormed] using hw
    rw [h, payloadBytes, Config.maxPayload]
    split <;> omega
  unfold cmdSubmit
  split
  · split
    · exact .refl
    · split
      · exact .refl
      · rename_i h hl
        exact .single (.submit s h dest payload (lowestFree_some hl).1 short)
  · exact .refl

theorem cmdCancel_moves (b : Byte) : Moves heard s (cmdCancel b s).1 := by
  unfold cmdCancel
  split
  · exact .refl
  · split
    · exact .refl
    · rename_i e he
      split
      · rename_i hq
        exact .single (.cancel s _ e he (by cases hs : e.state <;> simp_all [EntryState.isQueued, EntryState.isComplete]))
      · split <;> exact .refl

theorem cmdJoin_moves : Moves heard s (cmdJoin s).1 := by
  unfold cmdJoin
  split
  · rename_i hs
    split
    · exact .refl
    · rename_i hf
      exact .single (.join s hs hf)
  · exact .refl

theorem cmdLeave_moves : Moves heard s (cmdLeave s).1 := by
  unfold cmdLeave
  split <;> rename_i hs
  · exact .refl
  · exact .refl
  all_goals exact leaveStation_moves (by simp [joined, hs])

theorem cmdReadNotice_moves : Moves heard s (cmdReadNotice s).1 := by
  unfold cmdReadNotice
  split
  · exact .refl
  · rename_i n rest h
    exact .single (.readNotice s n rest h)

/-- A host command is made of moves, unless it is a SET FIELD that is accepted (R145). -/
theorem effectOf_moves {c : HostCommand} (hc : c.wellFormed = true) (s : State) :
    Moves heard s (effectOf c s).1 ∨
    ∃ (id : Byte) (v : List Byte) (f : FieldId) (r : ConfigRecord), c = .setField id v ∧ s.stc.station = .unjoined ∧
      fieldOfId id = some f ∧ writeField s.stc.config f v = some r ∧ (effectOf c s).1 = fieldWritten f r s := by
  cases c
  case setField id v =>
    simp only [effectOf, cmdSetField]
    split
    · rename_i hs
      split
      · exact .inl .refl
      · rename_i f hf
        split
        · exact .inl .refl
        · rename_i r hr
          exact .inr ⟨id, v, f, r, rfl, hs, hf, hr, rfl⟩
    · exact .inl .refl
  case submit dest length payload => exact .inl (cmdSubmit_moves hc)
  case cancel b => exact .inl (cmdCancel_moves b)
  case readFrame => exact .inl cmdReadFrame_moves
  case flushPool => exact .inl cmdFlushPool_moves
  case join => exact .inl cmdJoin_moves
  case leave => exact .inl cmdLeave_moves
  case softReset => exact .inl (.of_aside rfl)
  case readNotice => exact .inl cmdReadNotice_moves
  case readCounters =>
    exact .inl (.single (.count s Counters.zero fun _ => by simp [CountersLaw, Counters.values, Counters.zero]))
  case getField id =>
    simp only [effectOf, cmdGetField]
    split <;> exact .inl .refl
  case queryEntry b =>
    simp only [effectOf, cmdQueryEntry]
    split
    · exact .inl .refl
    · split <;> exact .inl .refl
  case readPeer b =>
    simp only [effectOf, cmdReadPeer]
    split <;> exact .inl .refl
  all_goals exact .inl .refl

end Operations

/-! ### Laws that every move keeps -/

/-- A law that each move keeps, an accepted SET FIELD and the resets too, is kept by every event. A move of an event may take
the law to hold where the event began. -/
theorem keptByEvents_of_moves {Law : State → Prop}
    (move : ∀ s₀, Law s₀ → ∀ s t, Move (HeardIn s₀) s t → Law s → Law t)
    (written : ∀ (f : FieldId) (v : List Byte) (c : ConfigRecord) (s : State), s.stc.station = .unjoined →
      writeField s.stc.config f v = some c → Law s → Law (fieldWritten f c s))
    (soft : ∀ lrx s, Law s → Law (softReset lrx s)) (hard : ∀ lrx s, Law s → Law (hardReset lrx s)) :
    KeptByEvents Law := by
  have moves : ∀ s t, Law s → Moves (HeardIn s) s t → Law t := by
    intro s t h hm
    induction hm with
    | refl => exact h
    | tail _ last ih => exact move s h _ _ last ih
  have aside : ∀ s t, Aside s t → Law s → Law t := fun s t ha h => moves s t h (.of_aside ha)
  refine ⟨fun s t hp h => aside s t ?_ h, fun c s hc h => ?_, soft, hard, fun s h => aside s _ rfl h,
    fun i f s hf h => moves s _ h (runningEvent_moves hf s), fun i k f s hf _ h => moves s _ h (idleEvent_moves hf)⟩
  · unfold Aside
    rw [hp]
  · rcases effectOf_moves hc s with hm | ⟨_, v, f, r, -, hs, -, hr, he⟩
    · exact moves s _ h hm
    · rw [he]
      exact written f v r s hs hr h

end Sys2Proof.Machine

/-! PROOFS. The laws that moves keep: the configuration record's ranges and who writes it, the pool's fill, the counters and
ATTN, last sender, and the congestion state (R30, R114, R132 to R142, R144, R145, R175, R177). -/

namespace Sys2Proof.Machine

/-! ### The configuration record (R144, R145) -/

variable {heard : GoodFrame → Prop} {s t : State}

@[simp] theorem enterAnnouncing_config (s : State) : (enterAnnouncing s).stc.config = s.stc.config := rfl

@[simp] theorem joinStation_config (s : State) : (joinStation s).stc.config = s.stc.config := by
  simp [joinStation, monitorJoins, setStation]

/-- No move writes the record. -/
theorem Move.config (h : Move heard s t) : t.stc.config = s.stc.config := by
  cases h
  case aside h => rw [h]
  case readNotice n rest _ =>
    unfold freeEntry
    split
    · split <;> rfl
    · rfl
  all_goals simp [setStation, refreshExpires, monitorWithdraw]

theorem Moves.config (h : Moves heard s t) : t.stc.config = s.stc.config := by
  induction h with
  | refl => rfl
  | tail _ last ih => rw [last.config, ih]

theorem inRange_eq_some {lo hi n : Nat} {bs : List Byte} :
    inRange lo hi bs = some n ↔ n = numberOfBytes bs ∧ lo ≤ n ∧ n ≤ hi := by
  unfold inRange
  split <;> simp <;> grind

theorem watchOf_source {bs : List Byte} {w : Watch} {n : Nat} (hw : watchOf bs = some w) (hn : w.source = some n) :
    n ≤ 31 := by
  unfold watchOf watchSourceOf at hw
  split at hw
  · split_ifs at hw <;> simp_all
    · obtain rfl := hw; cases hn
    · obtain rfl := hw; cases hn; assumption
  · cases hw

theorem writeField_law {c c' : ConfigRecord} {f : FieldId} {v : List Byte} (h : ConfigLaw c)
    (hw : writeField c f v = some c') : ConfigLaw c' := by
  cases f
  case attnMask =>
    cases hw
    cases h
    constructor <;> assumption
  case watch i =>
    simp only [writeField, Option.map_eq_some_iff] at hw
    obtain ⟨w, hw, rfl⟩ := hw
    have watches : ∀ j : Fin 4, ∀ n, (c.watches.set i w)[j].source = some n → n ≤ 31 := by
      intro j n hj
      by_cases hij : (i : Nat) = j
      · simp only [Fin.getElem_fin, Vector.getElem_set, hij, if_true] at hj
        exact watchOf_source hw hj
      · simp only [Fin.getElem_fin, Vector.getElem_set, hij, if_false] at hj
        exact h.watches j n hj
    cases h
    constructor <;> assumption
  all_goals
    simp only [writeField, Option.map_eq_some_iff, inRange_eq_some] at hw
    obtain ⟨n, ⟨-, hlo, hhi⟩, rfl⟩ := hw
    have hrange := And.intro hlo hhi
    cases h
    constructor <;> assumption

theorem defaults_law : ConfigLaw ConfigRecord.defaults := by
  refine ⟨?_, ?_, ?_, ?_, ?_, ?_, ?_, ?_, ?_, ?_, ?_, ?_, ?_, fun i n h => ?_⟩
  case refine_14 => simp [ConfigRecord.defaults] at h
  all_goals simp [ConfigRecord.defaults]

theorem fieldWritten_config (f : FieldId) (c : ConfigRecord) (s : State) : (fieldWritten f c s).stc.config = c := by
  rw [fieldWritten_eq]

@[simp] theorem softReset_config (lrx : Bool) (s : State) : (softReset lrx s).stc.config = s.stc.config := rfl

@[simp] theorem hardReset_config (lrx : Bool) (s : State) : (hardReset lrx s).stc.config = ConfigRecord.defaults := rfl

theorem configLaw_keptByEvents : KeptByEvents fun s => ConfigLaw s.stc.config :=
  keptByEvents_of_moves (fun _ _ s t hm h => hm.config ▸ h)
    (fun f v c s _ hw h => by rw [fieldWritten_config]; exact writeField_law h hw)
    (fun _ _ h => h) (fun _ _ _ => defaults_law)

/-- A SET FIELD of the record's that a command could take by its last byte (R145). -/
def WritesRecord (s t : State) (c : HostCommand) : Prop :=
  s.stc.station = .unjoined ∧ ∃ (id : Byte) (v : List Byte) (f : FieldId),
    c = .setField id v ∧ fieldOfId id = some f ∧ writeField s.stc.config f v = some t.stc.config

/-- A host command that executes writes the record only as an accepted SET FIELD (R145). -/
theorem executeCommand_config {c : HostCommand} (hc : c.wellFormed = true) (s : State) :
    (executeCommand c (effectOf c) s).stc.config = s.stc.config ∨ WritesRecord s (executeCommand c (effectOf c) s) c := by
  have config : (executeCommand c (effectOf c) s).stc.config = (effectOf c s).1.stc.config := rfl
  unfold WritesRecord
  rw [config]
  rcases effectOf_moves (heard := fun _ => True) hc s with hm | ⟨id, v, f, r, rfl, hs, hf, hr, he⟩
  · exact .inl hm.config
  · rw [he, fieldWritten_config]
    exact .inr ⟨hs, id, v, f, rfl, hf, hr⟩

/-- A rising edge writes the record only where its bit completes a SET FIELD that is accepted (R145, R162). -/
theorem clockRise_config (hdi : Bool) (s : State) :
    (clockRise hdi s).stc.config = s.stc.config ∨
    ∃ c, readCommand (s.hpt.taken ++ [byteOf (numberOfBits (s.hpt.bits ++ [hdi]))]) = some c ∧
      WritesRecord s (clockRise hdi s) c := by
  have taking : (takeBit hdi s).stc.config = s.stc.config ∨
      ∃ c, readCommand (s.hpt.taken ++ [byteOf (numberOfBits (s.hpt.bits ++ [hdi]))]) = some c ∧
        WritesRecord s (takeBit hdi s) c := by
    unfold takeBit
    dsimp only
    split
    · exact .inl rfl
    · split
      · rename_i c hc
        rcases executeCommand_config (readCommand_wellFormed hc) s with h | h
        · exact .inl h
        · exact .inr ⟨c, hc, h⟩
      · exact .inl rfl
  unfold clockRise
  split
  case h_2 => exact taking
  case h_3 => exact taking
  all_goals exact .inl rfl

theorem endTransaction_config (lrx : Bool) (s : State) : (endTransaction lrx s).stc.config = s.stc.config := by
  unfold endTransaction
  split <;> rfl

/-- From `s` to `t` the record stays, or `i` is a hardware reset or its release, or takes an accepted SET FIELD (R144, R145). -/
def RecordKept (i : Instr) (s t : State) : Prop :=
  t.stc.config = s.stc.config ∨
  (t.stc.config = ConfigRecord.defaults ∧
    ((running s = true ∧ (i = .hardwareReset ∨ i = .vddOutOfRange)) ∨
      (running s = false ∧ ∃ lrx, i = .nresetRelease lrx ∨ i = .vddReturn lrx))) ∨
  (s.stc.station = .unjoined ∧ ∃ (id : Byte) (v : List Byte) (f : FieldId),
    fieldOfId id = some f ∧ writeField s.stc.config f v = some t.stc.config ∧
    ((i = .setField id v ∧ portTakes (.setField id v) s = true) ∨
      ∃ hdi, i = .hckEdge true hdi ∧ portLive s = true ∧
        readCommand (s.hpt.taken ++ [byteOf (numberOfBits (s.hpt.bits ++ [hdi]))]) = some (.setField id v)))

theorem hostCommand_config {i : Instr} {c : HostCommand} (hc : i.hostCommand = some c) (s : State) :
    RecordKept i s (onPort c (effectOf c) s) := by
  unfold onPort
  split
  · rename_i hp
    have wf : c.wellFormed = true := by simp only [portTakes, Bool.and_eq_true] at hp; exact hp.1.2
    rcases executeCommand_config wf s with h | ⟨hs, id, v, f, rfl, hf, hw⟩
    · exact .inl h
    · have hi : i = .setField id v := by cases i <;> cases hc; rfl
      exact .inr (.inr ⟨hs, id, v, f, hf, hw, .inl ⟨hi, hp⟩⟩)
  · exact .inl rfl

theorem pinEvent_config {i : Instr} {f : State → State} (hf : pinEvent i = some f) (s : State) :
    RecordKept i s (f s) := by
  cases i <;> cases hf
  case hcsFall =>
    dsimp only [fallHcs]
    split_ifs <;> exact .inl rfl
  case hcsRise lrx =>
    dsimp only [riseHcs]
    split_ifs
    · exact .inl rfl
    · exact .inl (endTransaction_config lrx _)
    · exact .inl rfl
  case hckEdge rising hdi =>
    dsimp only
    split_ifs with hl hr
    · subst hr
      rcases clockRise_config hdi s with h | ⟨c, hc, hs, id, v, f, rfl, hf, hw⟩
      · exact .inl h
      · exact .inr (.inr ⟨hs, id, v, f, hf, hw, .inr ⟨hdi, rfl, hl, hc⟩⟩)
    · unfold clockFall
      split <;> exact .inl rfl
    · exact .inl rfl
  case hardwareReset =>
    unfold nresetFalls intoReset
    split_ifs with _ hr
    · exact .inl rfl
    · exact .inr (.inl ⟨rfl, .inl ⟨hr, .inl rfl⟩⟩)
    · exact .inl rfl
  case nresetRelease lrx =>
    unfold nresetRises outOfReset
    split_ifs with hn hr
    · exact .inr (.inl ⟨rfl, .inr ⟨by simp [running, hn], lrx, .inl rfl⟩⟩)
    · exact .inl rfl
    · exact .inl rfl
  case vddOutOfRange =>
    unfold vddFalls intoReset
    split_ifs with _ hr
    · exact .inr (.inl ⟨rfl, .inl ⟨hr, .inr rfl⟩⟩)
    · exact .inl rfl
    · exact .inl rfl
  case vddReturn lrx =>
    unfold vddReturns outOfReset
    split_ifs with hv hr
    · exact .inl rfl
    · exact .inr (.inl ⟨rfl, .inr ⟨by simp [running, hv], lrx, .inr rfl⟩⟩)
    · exact .inl rfl
  case vioFall lrx =>
    unfold vioFalls
    split_ifs
    · exact .inl (endTransaction_config lrx s)
    · exact .inl rfl
    · exact .inl rfl
  case vioReturn =>
    unfold vioReturns
    dsimp only
    split_ifs <;> exact .inl rfl

/-- Settles O46: the moves leave the record, so that only an accepted SET FIELD and a hardware reset write it. -/
theorem configStaysInRange : Obligations.ConfigStaysInRange := by
  refine ⟨configLaw_keptByEvents.step, fun i s t ht => ?_⟩
  rcases instr_kinds s.stc.config i with ⟨c, hc⟩ | ⟨f, hf⟩ | ⟨⟨n, f⟩, hf⟩ | ⟨f, hf⟩
  · rw [exec_hostCommand hc] at ht
    cases ht
    exact hostCommand_config hc s
  · rw [exec_running hf] at ht
    cases ht
    unfold whenRunning
    split
    · exact .inl (runningEvent_moves hf s).config
    · exact .inl rfl
  · rw [exec_idle hf] at ht
    cases ht
    unfold atIdle
    split
    · exact .inl (idleEvent_moves (heard := fun _ => True) hf).config
    · exact .inl rfl
  · rw [exec_pin hf] at ht
    cases ht
    exact pinEvent_config hf s

/-! ### The pool (R114, R118) -/

theorem Move.pool (h : Move heard s t) (hl : PoolLaw s.rxp) : PoolLaw t.rxp := by
  cases h
  case aside h => rw [h]; exact hl
  case readNotice n rest _ =>
    unfold freeEntry
    split
    · split <;> exact hl
    · exact hl
  case fill p hp hr => simpa using hp hl
  case deliver p hp =>
    obtain ⟨hu, hn, hf⟩ := hp
    refine ⟨?_, ?_, ?_, ?_⟩ <;> simp only [setPool, hu, hn, hf]
    · exact hl.fill_sum
    · exact hl.fill_le
    · exact hl.urgent_watch
    · exact hl.normal_watch
  case join => simpa [joinStation, monitorJoins] using hl
  all_goals simpa [setStation, refreshExpires, monitorWithdraw] using hl

theorem ReceivePool.afterReset_law : PoolLaw ReceivePool.afterReset :=
  ⟨rfl, by simp [ReceivePool.afterReset], by simp [ReceivePool.afterReset], by simp [ReceivePool.afterReset]⟩

theorem poolAfterTimeoutWrite_law {p : ReceivePool} (h : PoolLaw p) (timeout : Nat) :
    PoolLaw (poolAfterTimeoutWrite timeout p) := by
  rw [poolAfterTimeoutWrite_eq]
  cases h
  constructor <;> assumption

/-- Settles O47: a store adds a record that fits, READ FRAME takes one out, FLUSH POOL and a reset all. -/
theorem fillIsTheSumOfBlocks : Obligations.FillIsTheSumOfBlocks := by
  refine (keptByEvents_of_moves (fun _ _ s t hm h => hm.pool h) (fun f v c s _ _ h => ?_)
    (fun _ _ _ => ReceivePool.afterReset_law) (fun _ _ _ => ReceivePool.afterReset_law)).step
  rw [fieldWritten_eq]
  dsimp only
  split
  · exact poolAfterTimeoutWrite_law h _
  · exact h

/-! ### Counters and ATTN (R175, R177) -/

theorem offerNotice_counters {n : Notice} (h : CountersLaw s.counters) : CountersLaw (offerNotice n s).counters := by
  unfold offerNotice
  split
  · exact h
  · exact h.raise (by simp [Counters.values])

theorem judgeFill_counters (h : CountersLaw s.counters) : CountersLaw (judgeFill s).counters := by
  unfold judgeFill
  split_ifs
  · exact offerNotice_counters h
  · exact h
  · exact offerNotice_counters h
  · exact h

theorem Move.counters (h : Move heard s t) (hl : CountersLaw s.counters) : CountersLaw t.counters := by
  cases h
  case aside h => rw [h]; exact hl
  case count c hc => exact hc hl
  case inform n _ => exact offerNotice_counters hl
  case complete => exact offerNotice_counters hl
  case readNotice n rest _ =>
    unfold freeEntry
    split
    · split <;> exact hl
    · exact hl
  case fill => exact judgeFill_counters hl
  case join => exact judgeFill_counters hl
  all_goals simpa [setStation, refreshExpires, monitorWithdraw] using hl

theorem Counters.zero_law : CountersLaw Counters.zero := by simp [CountersLaw, Counters.values, Counters.zero]

theorem countersLaw_keptByEvents : KeptByEvents fun s => CountersLaw s.counters :=
  keptByEvents_of_moves (fun _ _ s t hm h => hm.counters h) (fun f v c s _ _ h => by rw [fieldWritten_eq]; exact h)
    (fun _ _ _ => Counters.zero_law) (fun _ _ _ => Counters.zero_law)

/-- Every command settles ATTN as it ends (R178). -/
theorem exec_attn {i : Instr} (h : exec i s = .next t) : AttnLaw t := by
  have settled : ∃ u, exec i s = .next (settleAttn u) := by
    rcases instr_kinds s.stc.config i with ⟨c, hc⟩ | ⟨f, hf⟩ | ⟨⟨n, f⟩, hf⟩ | ⟨f, hf⟩
    · exact ⟨_, exec_hostCommand hc s⟩
    · exact ⟨_, exec_running hf s⟩
    · exact ⟨_, exec_idle hf⟩
    · exact ⟨_, exec_pin hf s⟩
  obtain ⟨u, hu⟩ := settled
  rw [h] at hu
  cases hu
  exact settleAttn_law u

/-- A bit time moves the Line Interface and the model's own fields alone (R16, R17, R20). -/
theorem idleStep_eq (s : State) :
    idleStep s = { s with lif := (idleStep s).lif, choices := (idleStep s).choices, pending := (idleStep s).pending } := by
  unfold idleStep whenRunning
  split
  · unfold bitTimePasses
    dsimp only
    rw [freeOrder_state]
    simp [setLine]
  · rfl

/-- Settles O58: the counters by the moves; ATTN because every command settles it and a bit time touches none of its causes. -/
theorem countersSaturateAndAttnFollows : Obligations.CountersSaturateAndAttnFollows := by
  rintro s t ⟨hc, ha⟩ ht
  refine ⟨countersLaw_keptByEvents.step s t hc ht, ?_⟩
  rcases step_cases ht with ⟨i, rest, -, hi⟩ | ⟨-, rfl⟩
  · exact exec_attn hi
  · rw [idleStep_eq]
    exact ha

end Sys2Proof.Machine

/-! PROOFS. Completion notices and COMPLETE entries (R72, R172), payload lengths (R52, R115), last sender (R30), and the congestion
state (R132 to R142): what each move does to them. -/

namespace Sys2Proof.Machine

variable {heard : GoodFrame → Prop} {s t : State}

/-! ### Completion notices (R72, R172) -/

/-- The entry of this handle is COMPLETE with this outcome (R54). -/
def CompletedAs (s : State) (h : Fin 16) (o : EntryOutcome) : Prop :=
  ∃ e, s.txq.entries[h] = some e ∧ e.state = .complete o

theorem noticeLaw_iff : NoticeLaw s ↔
    informationalCount s.notices ≤ 16 ∧ (s.notices.filter fun n => n.kind.isCompletion).Nodup ∧
    (∀ n ∈ s.notices, n.kind.isCompletion = true → ∃ h o, CompletedAs s h o ∧ n = completionNotice h o) ∧
    ∀ h o, CompletedAs s h o → completionNotice h o ∈ s.notices := by
  constructor
  · rintro ⟨hi, hd, hn, hq⟩
    refine ⟨hi, hd, fun n hm hc => ?_, ?_⟩
    · obtain ⟨h, e, o, he, ho, rfl⟩ := hn n hm hc
      exact ⟨h, o, ⟨e, he, ho⟩, rfl⟩
    · rintro h o ⟨e, he, ho⟩
      exact hq h e o he ho
  · rintro ⟨hi, hd, hn, hq⟩
    refine ⟨hi, hd, fun n hm hc => ?_, fun h e o he ho => hq h o ⟨e, he, ho⟩⟩
    obtain ⟨h, o, ⟨e, he, ho⟩, rfl⟩ := hn n hm hc
    exact ⟨h, e, o, he, ho, rfl⟩

/-- The law reads the notices and which entries are COMPLETE, and nothing else. -/
theorem NoticeLaw.of_completed (hl : NoticeLaw s) (hn : t.notices = s.notices)
    (hc : ∀ h o, CompletedAs t h o ↔ CompletedAs s h o) : NoticeLaw t := by
  rw [noticeLaw_iff] at hl ⊢
  simpa only [hn, hc] using hl

theorem NoticeLaw.of_entries (hl : NoticeLaw s) (hn : t.notices = s.notices) (he : t.txq.entries = s.txq.entries) :
    NoticeLaw t :=
  hl.of_completed hn fun h o => by simp only [CompletedAs, he]

/-- An informational notice is admitted below the ceiling of 16, and dropped at it (R172). -/
theorem NoticeLaw.inform (hl : NoticeLaw s) {n : Notice} (hn : n.kind.isCompletion = false) :
    NoticeLaw (offerNotice n s) := by
  unfold offerNotice
  split
  case isFalse => exact hl.of_entries rfl rfl
  case isTrue h =>
    have room : informationalCount s.notices < 16 := by
      rw [hn, Bool.false_or, decide_eq_true_eq] at h
      exact h
    rw [noticeLaw_iff] at hl ⊢
    obtain ⟨-, hd, hn', hq⟩ := hl
    refine ⟨?_, by simpa [hn] using hd, ?_, fun h o hc => List.mem_append_left _ (hq h o hc)⟩
    · simp only [informationalCount, List.filter_append, List.length_append] at room ⊢
      simp [hn]
      omega
    · simp only [List.mem_append, List.mem_singleton]
      rintro m (hm | rfl) hc
      · exact hn' m hm hc
      · rw [hn] at hc; cases hc

theorem NoticeLaw.judgeFill (hl : NoticeLaw s) : NoticeLaw (judgeFill s) := by
  have informed : ∀ (m : CongestionMonitor) (n : Notice), n.kind.isCompletion = false →
      NoticeLaw (offerNotice n (setMonitor m s)) := fun m n hn => (hl.of_entries (t := setMonitor m s) rfl rfl).inform hn
  unfold Machine.judgeFill
  split_ifs
  · exact informed _ _ rfl
  · exact hl
  · exact informed _ _ rfl
  · exact hl

theorem setEntry_get (h k : Fin 16) (e : Option Entry) (s : State) :
    (setEntry h e s).txq.entries[k] = if k = h then e else s.txq.entries[k] :=
  setSlot_get h k e s.txq

/-- An entry that was not COMPLETE, replaced by none that is, leaves the COMPLETE entries as they were. -/
theorem setEntry_completed {h : Fin 16} {e' : Option Entry} (hs : ∀ e, s.txq.entries[h] = some e → e.state.isComplete = false)
    (hs' : ∀ e, e' = some e → e.state.isComplete = false) (k : Fin 16) (o : EntryOutcome) :
    CompletedAs (setEntry h e' s) k o ↔ CompletedAs s k o := by
  unfold CompletedAs
  rw [setEntry_get]
  split
  · rename_i hk
    subst hk
    constructor
    · rintro ⟨e, he, ho⟩
      have := hs' e he
      rw [ho] at this
      cases this
    · rintro ⟨e, he, ho⟩
      have := hs e he
      rw [ho] at this
      cases this
  · exact Iff.rfl

/-- A completion adds its entry's notice, which no COMPLETE entry had (R72). -/
theorem NoticeLaw.complete (hl : NoticeLaw s) {h : Fin 16} {e : Entry} (he : s.txq.entries[h] = some e)
    (hs : e.state.isComplete = false) (e' : Entry) (o : EntryOutcome) : NoticeLaw (completeEntry h e' o s) := by
  have notComplete : ∀ o', ¬ CompletedAs s h o' := by
    rintro o' ⟨e'', he'', ho⟩
    rw [he] at he''
    cases he''
    rw [ho] at hs
    cases hs
  have completed : ∀ k o', CompletedAs (completeEntry h e' o s) k o' ↔ CompletedAs s k o' ∨ (k = h ∧ o' = o) := by
    intro k o'
    have get : (completeEntry h e' o s).txq.entries[k] = if k = h then some { e' with state := .complete o }
        else s.txq.entries[k] := by
      rw [completeEntry_eq]
      exact setSlot_get h k _ s.txq
    unfold CompletedAs
    rw [get]
    split
    · rename_i hk
      subst hk
      constructor
      · rintro ⟨_, ⟨⟩, ho⟩
        cases ho
        exact .inr ⟨rfl, rfl⟩
      · rintro (hc | ⟨-, rfl⟩)
        · exact absurd hc (notComplete o')
        · exact ⟨_, rfl, rfl⟩
    · rename_i hk
      simp [hk]
  have notices : (completeEntry h e' o s).notices = s.notices ++ [completionNotice h o] := by rw [completeEntry_eq]
  have kind := completionNotice_isCompletion h o
  rw [noticeLaw_iff] at hl ⊢
  obtain ⟨hi, hd, hn, hq⟩ := hl
  rw [notices]
  refine ⟨?_, ?_, ?_, ?_⟩
  · simpa [informationalCount, kind] using hi
  · have fresh : completionNotice h o ∉ s.notices := by
      intro hm
      obtain ⟨h', o', hc, heq⟩ := hn _ hm kind
      obtain ⟨rfl, -⟩ := completionNotice_injective heq
      exact notComplete _ hc
    rw [List.filter_append, List.nodup_append]
    refine ⟨hd, by simp [kind], ?_⟩
    intro m hm n hn' heq
    have hm' := (List.mem_filter.1 hm).1
    have : n = completionNotice h o := by simpa [kind] using hn'
    exact fresh (this ▸ heq ▸ hm')
  · simp only [List.mem_append, List.mem_singleton]
    rintro m (hm | rfl) hc
    · obtain ⟨h', o', hc', heq⟩ := hn m hm hc
      exact ⟨h', o', (completed h' o').2 (.inl hc'), heq⟩
    · exact ⟨h, o, (completed h o).2 (.inr ⟨rfl, rfl⟩), rfl⟩
  · intro k o' hc
    rcases (completed k o').1 hc with hc | ⟨rfl, rfl⟩
    · exact List.mem_append_left _ (hq k o' hc)
    · simp

theorem entryAfterPause_complete (p : Fin 32) (b : Bool) (e : Entry) (o : EntryOutcome) :
    (entryAfterPause p b e).state = .complete o ↔ e.state = .complete o := by
  unfold entryAfterPause
  split
  · cases hs : e.state <;> cases b <;> simp [hs]
  · exact Iff.rfl

theorem pauseEntries_completed (p : Fin 32) (b : Bool) (s : State) (h : Fin 16) (o : EntryOutcome) :
    CompletedAs (pauseEntries p b s) h o ↔ CompletedAs s h o := by
  unfold CompletedAs pauseEntries
  simp only [mapCells_get_fin, Option.map_eq_some_iff]
  constructor
  · rintro ⟨_, ⟨e, he, rfl⟩, ho⟩
    exact ⟨e, he, (entryAfterPause_complete p b e o).1 ho⟩
  · rintro ⟨e, he, ho⟩
    exact ⟨_, ⟨e, he, rfl⟩, (entryAfterPause_complete p b e o).2 ho⟩

/-- READ NOTICE of a completion notice frees the one COMPLETE entry that the notice names (R74). -/
theorem NoticeLaw.readNotice (hl : NoticeLaw s) {n : Notice} {rest : List Notice} (hn : s.notices = n :: rest) :
    NoticeLaw (freeEntry n { s with notices := rest }) := by
  rw [noticeLaw_iff, hn] at hl
  obtain ⟨hi, hd, named, queued⟩ := hl
  simp only [List.mem_cons, forall_eq_or_imp] at named
  cases hk : n.kind.isCompletion with
  | false =>
    have same : freeEntry n { s with notices := rest } = { s with notices := rest } := by simp [freeEntry, hk]
    rw [same, noticeLaw_iff]
    refine ⟨?_, ?_, named.2, fun h o hc => ?_⟩
    · simp only [informationalCount, List.filter_cons, hk, Bool.not_false, if_true, List.length_cons] at hi ⊢
      omega
    · simpa [hk] using hd
    · rcases List.mem_cons.1 (queued h o hc) with heq | hm
      · rw [← heq, completionNotice_isCompletion] at hk
        cases hk
      · exact hm
  | true =>
    obtain ⟨h, o, ⟨e, he, ho⟩, rfl⟩ := named.1 hk
    have subject : (completionNotice h o).subject = byteOf h.val := by cases o <;> rfl
    have freed : freeEntry (completionNotice h o) { s with notices := rest } = setEntry h none { s with notices := rest } := by
      simp only [freeEntry, hk, subject, handleOf_byteOf, if_true]
    have completed : ∀ k o', CompletedAs (setEntry h none { s with notices := rest }) k o' ↔ k ≠ h ∧ CompletedAs s k o' := by
      intro k o'
      unfold CompletedAs
      rw [setEntry_get]
      split <;> simp_all
    simp only [List.filter_cons, hk, if_true, List.nodup_cons] at hd
    rw [freed, noticeLaw_iff]
    refine ⟨?_, hd.2, fun m hm hc => ?_, fun k o' hc => ?_⟩
    · simpa [informationalCount, List.filter_cons, hk] using hi
    · obtain ⟨k, o', hc', rfl⟩ := named.2 m hm hc
      refine ⟨k, o', (completed k o').2 ⟨?_, hc'⟩, rfl⟩
      rintro rfl
      obtain ⟨e', he', ho'⟩ := hc'
      rw [he] at he'
      cases he'
      rw [ho] at ho'
      cases ho'
      exact hd.1 (List.mem_filter.2 ⟨hm, hc⟩)
    · obtain ⟨hne, hc⟩ := (completed k o').1 hc
      rcases List.mem_cons.1 (queued k o' hc) with heq | hm
      · exact absurd (completionNotice_injective heq).1 hne
      · exact hm

theorem Move.notices (h : Move heard s t) (hl : NoticeLaw s) : NoticeLaw t := by
  cases h
  case aside h => exact hl.of_entries (by rw [h]) (by rw [h])
  case inform n hn => exact hl.inform hn
  case queue q hq => exact hl.of_entries rfl hq
  case rework h e e' he hs hs' _ =>
    refine hl.of_completed rfl (setEntry_completed ?_ ?_)
    · rintro e'' he''
      rw [he] at he''
      cases he''
      exact hs
    · rintro _ ⟨⟩
      exact hs'
  case complete h e e' o he hs _ => exact hl.complete he hs e' o
  case repause p b => exact hl.of_completed rfl (pauseEntries_completed p b s)
  case submit h dest payload hf _ =>
    refine hl.of_completed rfl (setEntry_completed (s := s) (e' := some (submittedEntry s dest payload)) ?_ ?_)
    · rintro e he
      rw [hf] at he
      cases he
    · rintro _ ⟨⟩
      unfold submittedEntry
      split <;> rfl
  case cancel h e he hs =>
    refine hl.of_completed rfl (setEntry_completed ?_ (by simp))
    rintro e' he'
    rw [he] at he'
    cases he'
    exact hs
  case readNotice n rest hn => exact hl.readNotice hn
  case fill p _ _ => exact (hl.of_entries (t := setPool p s) rfl rfl).judgeFill
  case join => exact NoticeLaw.judgeFill (hl.of_entries rfl rfl)
  case announced kind o => exact hl.of_entries (by simp) (by simp)
  case activate => exact hl.of_entries (by simp) (by simp)
  all_goals exact hl.of_entries rfl rfl

theorem noticeLaw_afterReset (hn : s.notices = []) (he : s.txq = TransmitQueue.afterReset) : NoticeLaw s := by
  have free : ∀ h : Fin 16, s.txq.entries[h] = none := by simp [he, TransmitQueue.afterReset]
  rw [noticeLaw_iff, hn]
  simp [informationalCount, CompletedAs, free]

theorem noticeLaw_keptByEvents : KeptByEvents NoticeLaw :=
  keptByEvents_of_moves (fun _ _ s t hm h => hm.notices h)
    (fun f v c s _ _ h => h.of_entries (by rw [fieldWritten_eq]) (by rw [fieldWritten_eq]))
    (fun _ _ _ => noticeLaw_afterReset rfl rfl) (fun _ _ _ => noticeLaw_afterReset rfl rfl)

/-- Settles O48: a completion adds a notice and a COMPLETE entry together, READ NOTICE takes them away together. -/
theorem completionNoticesMatchEntries : Obligations.CompletionNoticesMatchEntries := noticeLaw_keptByEvents.step

theorem entryIs_complete {h : Fin 16} : entryIs s.txq EntryState.isComplete h = true ↔ ∃ o, CompletedAs s h o := by
  unfold entryIs CompletedAs
  cases he : s.txq.entries[h] with
  | none => simp
  | some e => cases hs : e.state <;> simp [EntryState.isComplete, hs]

/-- The completion notices name the COMPLETE entries, each one once (R72). -/
theorem NoticeLaw.handles (hl : NoticeLaw s) :
    ((s.notices.filter fun n => n.kind.isCompletion).map fun n => handleOf n.subject).Perm
      ((allHandles.filter fun h => entryIs s.txq EntryState.isComplete h).map some) := by
  have subject : ∀ (h : Fin 16) (o : EntryOutcome), handleOf (completionNotice h o).subject = some h := by
    intro h o
    have : (completionNotice h o).subject = byteOf h.val := by cases o <;> rfl
    rw [this, handleOf_byteOf]
  obtain ⟨-, hd, named, queued⟩ := noticeLaw_iff.1 hl
  have once : ∀ m ∈ s.notices.filter (fun n => n.kind.isCompletion), ∀ n ∈ s.notices.filter (fun n => n.kind.isCompletion),
      handleOf m.subject = handleOf n.subject → m = n := by
    intro m hm n hn heq
    rw [List.mem_filter] at hm hn
    obtain ⟨h, o, ⟨e, he, ho⟩, rfl⟩ := named m hm.1 hm.2
    obtain ⟨h', o', ⟨e', he', ho'⟩, rfl⟩ := named n hn.1 hn.2
    simp only [subject, Option.some.injEq] at heq
    subst heq
    rw [he] at he'
    cases he'
    rw [ho] at ho'
    cases ho'
    rfl
  rw [List.perm_ext_iff_of_nodup (List.Nodup.map_on once hd)
    ((allHandles_nodup.filter _).map (Option.some_injective _))]
  intro x
  simp only [List.mem_map, List.mem_filter, mem_allHandles, true_and, entryIs_complete]
  constructor
  · rintro ⟨n, ⟨hm, hc⟩, rfl⟩
    obtain ⟨h, o, hco, rfl⟩ := named n hm hc
    exact ⟨h, ⟨o, hco⟩, (subject h o).symm⟩
  · rintro ⟨h, ⟨o, hco⟩, rfl⟩
    exact ⟨_, ⟨queued h o hco, completionNotice_isCompletion h o⟩, subject h o⟩

/-- Settles O49: the notices and the entries are counted by the handles that they name. -/
theorem noticeQueueIsBounded : Obligations.NoticeQueueIsBounded := by
  intro s hl
  have count := hl.handles.length_eq
  rw [List.length_map, List.length_map] at count
  have handles : (allHandles.filter fun h => entryIs s.txq EntryState.isComplete h).length ≤ 16 :=
    List.length_filter_le _ allHandles
  have split := List.length_eq_length_filter_add (l := s.notices) fun n => n.kind.isCompletion
  have informational := hl.informational
  unfold informationalCount at informational
  exact ⟨count, by omega, by omega⟩

/-! ### Last sender (R30, R35, R148, R152) -/

theorem ladderLaw_congr (hs : t.lastSender = s.lastSender) (hc : t.stc = s.stc) (hl : LadderLaw s) : LadderLaw t := by
  obtain ⟨below, unjoined, own, listening⟩ := hl
  rw [← hs, ← hc] at *
  exact ⟨below, unjoined, own, listening⟩

theorem joined_iff : joined s = true ↔ s.stc.station ≠ .unjoined := by simp [joined]

theorem joinFault_eq_none {c : ConfigRecord} : joinFault c = none ↔ c.ownNumber < c.ladderSize ∧ c.lowMark < c.highMark := by
  unfold joinFault
  split_ifs <;> simp <;> omega

theorem Move.ladder (h : Move heard s t) (hl : LadderLaw s) : LadderLaw t := by
  cases h
  case aside h => exact ladderLaw_congr (by rw [h]) (by rw [h]) hl
  case sender l h =>
    refine ⟨fun n hn => ?_, fun hu => ?_, hl.own_below, hl.listening⟩
    · obtain ⟨hj, hlt | heq⟩ := h n hn
      · exact hlt
      · exact heq ▸ hl.own_below (joined_iff.1 hj)
    · cases hn : l with
      | none => rfl
      | some n => exact absurd hu (joined_iff.1 (h n hn).1)
  case join hs hf =>
    obtain ⟨hown, -⟩ := joinFault_eq_none.1 hf
    obtain ⟨heq, -⟩ := joinStation_listening s
    rw [heq]
    exact ⟨by simp, by simp, fun _ => hown, by simp⟩
  case announce h =>
    exact ⟨hl.below, by simp [enterAnnouncing, setStation], fun _ => hl.own_below (by simp [h]), by
      simp [enterAnnouncing, setStation]⟩
  case activate h =>
    exact ladderLaw_congr (s := setStation .active none s) (by simp) (by simp)
      ⟨hl.below, by simp [setStation], fun _ => hl.own_below (by simp [h]), by simp [setStation]⟩
  case station st hst hq hu hj =>
    exact ⟨hl.below, hu, fun h => hl.own_below (joined_iff.1 (hj h)), by simp [setStation, hst.2]⟩
  case readNotice n rest _ =>
    refine ladderLaw_congr ?_ ?_ hl <;> unfold freeEntry
    all_goals
      split
      · split <;> rfl
      · rfl
  all_goals exact ladderLaw_congr (by simp [refreshExpires, monitorWithdraw]) (by simp [refreshExpires, monitorWithdraw]) hl

theorem ladderLaw_unjoined (hs : s.lastSender = none) (hu : s.stc.station = .unjoined) (hr : s.stc.listeningRound = none) :
    LadderLaw s :=
  ⟨by simp [hs], fun _ => hs, fun h => absurd hu h, by simp [hu, hr]⟩

/-- Settles O54: a claim names a number below N, JOIN and the arrival in UNJOINED drop it, and the record is frozen between. -/
theorem lastSenderStaysBelowLadderSize : Obligations.LastSenderStaysBelowLadderSize := by
  refine (keptByEvents_of_moves (fun _ _ s t hm h => hm.ladder h) (fun f v c s hs _ h => ?_)
    (fun _ _ _ => ladderLaw_unjoined rfl rfl rfl) (fun _ _ _ => ladderLaw_unjoined rfl rfl rfl)).step
  refine ladderLaw_unjoined ?_ ?_ ?_ <;> rw [fieldWritten_eq]
  · exact h.unjoined hs
  · exact hs
  · simpa [hs] using h.listening

end Sys2Proof.Machine

/-! PROOFS. The congestion state (R132 to R142): what each operation of the monitor does to it; then frames in assembly and
payload lengths (R5, R9, R52, R115). -/

namespace Sys2Proof.Machine

variable {heard : GoodFrame → Prop} {s t : State}

/-! ### Timers after a tick (R18) -/

theorem timerAfterTick_eq_some {timer : Option Nat} {n : Nat} :
    timerAfterTick timer = some n ↔ timer = some (n + 1) ∧ 1 ≤ n := by
  cases timer with
  | none => simp [timerAfterTick]
  | some k =>
    unfold timerAfterTick
    dsimp only
    split <;> simp <;> omega

theorem timerAfterTick_isSome (timer : Option Nat) : (timerAfterTick timer).isSome = (timer.isSome && !timerExpires timer) := by
  cases timer with
  | none => rfl
  | some k =>
    unfold timerAfterTick timerExpires
    by_cases h : k ≤ 1 <;> simp [h]

/-! ### The monitor's own part of its law -/

/-- What holds of the monitor in this station state, whatever the fill. -/
structure MonitorCore (m : CongestionMonitor) (st : StationState) : Prop where
  marks : 1 ≤ m.lowMark ∧ m.lowMark < m.highMark ∧ m.highMark ≤ 48
  pause_congested : m.announcement = some .pause → m.congested = true
  resume_normal : m.announcement = some .resume → m.congested = false ∧ m.announced = true
  inactive : st ≠ .active → m.announced = false ∧ m.announcement = none ∧ m.refreshTimer = none
  refresh_runs : m.refreshTimer.isSome = true → m.congested = true ∧ m.announced = true
  refresh_range : ∀ n, m.refreshTimer = some n → 1 ≤ n ∧ n ≤ 2047

/-- The congestion state follows the fill between the marks in force (R134, R135). -/
def FollowsFill (m : CongestionMonitor) (fill : Nat) : Prop :=
  if m.congested = true then m.lowMark < fill else fill < m.highMark

theorem monitorLaw_iff : MonitorLaw s ↔ MonitorCore s.cgm s.stc.station ∧ FollowsFill s.cgm s.rxp.fill := by
  unfold FollowsFill
  constructor
  · rintro ⟨marks, above, below, pause, resume, inactive, runs, range⟩
    refine ⟨⟨marks, pause, resume, inactive, runs, range⟩, ?_⟩
    split
    · exact above ‹_›
    · exact below (by simpa using ‹¬ s.cgm.congested = true›)
  · rintro ⟨⟨marks, pause, resume, inactive, runs, range⟩, follows⟩
    exact ⟨marks, fun h => by simpa [h] using follows, fun h => by simpa [h] using follows, pause, resume, inactive, runs,
      range⟩

theorem monitorLaw_congr (hl : MonitorLaw s) (hm : t.cgm = s.cgm) (hf : t.rxp.fill = s.rxp.fill)
    (hs : t.stc.station = s.stc.station) : MonitorLaw t := by
  rw [monitorLaw_iff] at hl ⊢
  rwa [hm, hf, hs]

theorem refreshLoad_range {c : ConfigRecord} (h : ConfigLaw c) : 1 ≤ refreshLoad c ∧ refreshLoad c ≤ 2047 := by
  have := h.pauseHold
  unfold refreshLoad
  omega

section Operations

variable {m : CongestionMonitor} {st : StationState} {refresh : Nat}

theorem monitorOnset_core (h : MonitorCore m st) (hr : 1 ≤ refresh ∧ refresh ≤ 2047) :
    MonitorCore (monitorOnset (decide (st = .active)) refresh m) st := by
  obtain ⟨marks, pause, resume, inactive, runs, range⟩ := h
  unfold monitorOnset
  constructor <;> grind

theorem monitorRelief_core (h : MonitorCore m st) : MonitorCore (monitorRelief (decide (st = .active)) m) st := by
  obtain ⟨marks, pause, resume, inactive, runs, range⟩ := h
  unfold monitorRelief
  constructor <;> grind

theorem monitorPauseClean_core (h : MonitorCore m .active) (hr : 1 ≤ refresh ∧ refresh ≤ 2047) :
    MonitorCore (monitorPauseClean refresh m) .active := by
  obtain ⟨marks, pause, resume, inactive, runs, range⟩ := h
  unfold monitorPauseClean
  constructor <;> grind

theorem monitorResumeClean_core (h : MonitorCore m .active) : MonitorCore (monitorResumeClean m) .active := by
  obtain ⟨marks, pause, resume, inactive, runs, range⟩ := h
  unfold monitorResumeClean
  constructor <;> grind

end Operations

/-- The fill judged, the congestion state follows it (R134, R135). -/
theorem judgeFill_monitorLaw (hc : ConfigLaw s.stc.config) (h : MonitorCore s.cgm s.stc.station) :
    MonitorLaw (judgeFill s) := by
  have marks := h.marks
  unfold judgeFill
  split_ifs with hcong hfill hfill
  · rw [monitorLaw_iff]
    simp only [offerNotice_frame, setMonitor_cgm, setMonitor_stc, setMonitor_rxp]
    refine ⟨monitorRelief_core h, ?_⟩
    simp only [FollowsFill, monitorRelief, Bool.false_eq_true, if_false]
    omega
  · exact monitorLaw_iff.2 ⟨h, by simp only [FollowsFill, hcong, if_true]; omega⟩
  · rw [monitorLaw_iff]
    simp only [offerNotice_frame, setMonitor_cgm, setMonitor_stc, setMonitor_rxp]
    refine ⟨monitorOnset_core h (refreshLoad_range hc), ?_⟩
    have congested : (monitorOnset (isActive s) (refreshLoad s.stc.config) s.cgm).congested = true ∧
        (monitorOnset (isActive s) (refreshLoad s.stc.config) s.cgm).lowMark = s.cgm.lowMark := by
      unfold monitorOnset
      split <;> exact ⟨rfl, rfl⟩
    simp only [FollowsFill, congested.1, congested.2, if_true]
    omega
  · exact monitorLaw_iff.2 ⟨h, by simp only [FollowsFill, hcong]; simp; omega⟩

/-- What a CLEAN announcement in ACTIVE does to the monitor leaves its congestion state (R137, R138). -/
theorem monitorOutcome_law (hc : ConfigLaw s.stc.config) (hl : MonitorLaw s) (kind : FrameKind) (o : OwnOutcome) :
    MonitorLaw (monitorOutcome kind o s) := by
  unfold monitorOutcome
  split
  · rename_i h
    simp only [isActive, Bool.and_eq_true, decide_eq_true_eq] at h
    obtain ⟨core, follows⟩ := monitorLaw_iff.1 hl
    rw [h.1] at core
    split
    · refine monitorLaw_iff.2 ⟨?_, ?_⟩
      · simpa [h.1] using monitorPauseClean_core core (refreshLoad_range hc)
      · unfold FollowsFill monitorPauseClean at *
        dsimp only [setMonitor]
        split
        all_goals
          rename_i congested
          simpa [congested] using follows
    · refine monitorLaw_iff.2 ⟨?_, ?_⟩
      · simpa [h.1] using monitorResumeClean_core core
      · unfold FollowsFill monitorResumeClean at *
        dsimp only [setMonitor]
        split
        all_goals
          rename_i congested
          simpa [congested] using follows
    · exact hl
    · exact hl
    · exact hl
  · exact hl

theorem Move.monitor (h : Move heard s t) (hc : ConfigLaw s.stc.config) (hl : MonitorLaw s) : MonitorLaw t := by
  obtain ⟨core, follows⟩ := monitorLaw_iff.1 hl
  cases h
  case aside h => exact monitorLaw_congr hl (by rw [h]) (by rw [h]) (by rw [h])
  case readNotice n rest _ =>
    unfold freeEntry
    split
    · split <;> exact monitorLaw_congr hl rfl rfl rfl
    · exact monitorLaw_congr hl rfl rfl rfl
  case fill p hp _ => exact judgeFill_monitorLaw hc core
  case deliver p hp => exact monitorLaw_congr hl rfl hp.2.2 rfl
  case announced kind o => exact monitorOutcome_law hc hl kind o
  case refresh h =>
    obtain ⟨n, hn, -⟩ := timerExpires_iff.1 h
    obtain ⟨hcong, hann⟩ := core.refresh_runs (by rw [hn]; rfl)
    obtain ⟨marks, pause, resume, inactive, runs, range⟩ := core
    refine monitorLaw_iff.2 ⟨?_, follows⟩
    unfold refreshExpires
    constructor <;> simp only [setMonitor] <;> grind
  case refreshTick h =>
    obtain ⟨marks, pause, resume, inactive, runs, range⟩ := core
    refine monitorLaw_iff.2 ⟨?_, follows⟩
    constructor <;> simp only [setMonitor, timerAfterTick_isSome, timerAfterTick_eq_some] <;> grind [timerAfterTick]
  case withdraw =>
    refine monitorLaw_iff.2 ⟨⟨core.marks, ?_, ?_, ?_, ?_, ?_⟩, follows⟩ <;> simp [monitorWithdraw]
  case join hs hf =>
    obtain ⟨-, hmark⟩ := joinFault_eq_none.1 hf
    refine judgeFill_monitorLaw hc ?_
    obtain ⟨marks, pause, resume, inactive, runs, range⟩ := core
    have quiet := inactive (by simp [hs])
    exact ⟨⟨hc.lowMark.1, hmark, hc.highMark.2⟩, pause, resume, fun _ => quiet, runs, range⟩
  case announce h =>
    have quiet := core.inactive (by simp [h])
    exact monitorLaw_iff.2 ⟨⟨core.marks, core.pause_congested, core.resume_normal, fun _ => quiet, core.refresh_runs,
      core.refresh_range⟩, follows⟩
  case activate h =>
    obtain ⟨marks, pause, resume, inactive, runs, range⟩ := core
    have quiet := inactive (by simp [h])
    refine monitorLaw_iff.2 ?_
    unfold monitorEntersActive
    split
    · rename_i hcong
      refine ⟨⟨marks, fun _ => hcong, by simp [setMonitor], by simp [setMonitor, setStation], runs, range⟩, follows⟩
    · exact ⟨⟨marks, pause, resume, by simp [setStation], runs, range⟩, follows⟩
  case station st hst hq _ _ =>
    obtain ⟨marks, pause, resume, inactive, runs, range⟩ := core
    refine monitorLaw_iff.2 ⟨⟨marks, pause, resume, fun _ => ?_, runs, range⟩, follows⟩
    by_cases ha : s.stc.station = .active
    · exact hq ha
    · exact inactive ha
  all_goals exact monitorLaw_congr hl (by simp) (by simp) (by simp)

theorem monitorLaw_afterReset {high low : Nat} (hm : s.cgm = CongestionMonitor.afterReset high low)
    (hf : s.rxp = ReceivePool.afterReset) (marks : 1 ≤ low ∧ low < high ∧ high ≤ 48) : MonitorLaw s := by
  rw [monitorLaw_iff, hm, hf]
  refine ⟨⟨marks, ?_, ?_, ?_, ?_, ?_⟩, ?_⟩ <;> simp [CongestionMonitor.afterReset, FollowsFill, ReceivePool.afterReset]
  omega

theorem monitorLaw_keptByEvents : KeptByEvents fun s => ConfigLaw s.stc.config ∧ MonitorLaw s :=
  keptByEvents_of_moves (fun _ _ s t hm h => ⟨hm.config ▸ h.1, hm.monitor h.1 h.2⟩)
    (fun f v c s hs hw h => by
      refine ⟨by rw [fieldWritten_config]; exact writeField_law h.1 hw, monitorLaw_congr h.2 ?_ ?_ ?_⟩ <;>
        rw [fieldWritten_eq]
      dsimp only
      split
      · rw [poolAfterTimeoutWrite_eq]
      · rfl)
    (fun _ s h => ⟨h.1, monitorLaw_afterReset (s := softReset _ s) rfl rfl h.2.marks⟩)
    (fun _ s _ => ⟨defaults_law, monitorLaw_afterReset (s := hardReset _ s) rfl rfl (by decide)⟩)

/-- Settles O53: each change of fill is judged, and each other operation of the monitor keeps its own part of the law. -/
theorem congestionFollowsTheFill : Obligations.CongestionFollowsTheFill := monitorLaw_keptByEvents.step

end Sys2Proof.Machine

/-! PROOFS. The Frame Receiver's assembly (R5, R9, R11): what each character does by the field it comes to, the law of assembly
it keeps, and the frame of R2 heard whole. -/

namespace Sys2Proof.Machine

variable {a a' : Assembly} {b : Byte}

/-! ### What a character does, by its field (R9) -/

theorem frameKindOf_eq_data (n : Nat) : frameKindOf n = some .data ↔ n = 1 := by
  unfold frameKindOf
  split <;> simp_all

theorem frameKindOf_isSome (n : Nat) : (frameKindOf n).isSome = true ↔ 1 ≤ n ∧ n ≤ 5 := by
  unfold frameKindOf
  split <;> simp
  rename_i h1 h2 h3 h4 h5
  have h1 : n ≠ 1 := h1
  have h2 : n ≠ 2 := h2
  have h3 : n ≠ 3 := h3
  have h4 : n ≠ 4 := h4
  have h5 : n ≠ 5 := h5
  omega

theorem takeCharacter_badStop (a : Assembly) (b : Byte) :
    takeCharacter a b false = if a.checkHigh = none then .fails .framing else .failsAtEnd .framing := by
  unfold takeCharacter
  cases a.checkHigh <;> rfl

theorem takeCharacter_kind (h : a.kind = none) : takeCharacter a b true =
    if 1 ≤ b.toNat / 16 ∧ b.toNat / 16 ≤ 5 then .goesOn { a with kind := some b, check := checkByte a.check b }
    else .fails .kind := by
  unfold takeCharacter takeField
  simp only [h, if_true, frameKindOf_isSome, kindCode]

theorem takeCharacter_dest {k : Byte} (hk : a.kind = some k) (h : a.dest = none) :
    takeCharacter a b true = .goesOn { a with dest := some b, check := checkByte a.check b } := by
  simp only [takeCharacter, takeField, hk, h, if_true]

theorem takeCharacter_source {k d : Byte} (hk : a.kind = some k) (hd : a.dest = some d) (h : a.source = none) :
    takeCharacter a b true = .goesOn { a with source := some b, check := checkByte a.check b } := by
  simp only [takeCharacter, takeField, hk, hd, h, if_true]

theorem takeCharacter_seq {k d src : Byte} (hk : a.kind = some k) (hd : a.dest = some d) (hs : a.source = some src)
    (h : a.seq = none) : takeCharacter a b true = .goesOn { a with seq := some b, check := checkByte a.check b } := by
  simp only [takeCharacter, takeField, hk, hd, hs, h, if_true]

theorem takeCharacter_length {k d src q : Byte} (hk : a.kind = some k) (hd : a.dest = some d) (hs : a.source = some src)
    (hq : a.seq = some q) (h : a.length = none) : takeCharacter a b true =
      if (k.toNat / 16 = 1 ∧ 60 < b.toNat) ∨ (k.toNat / 16 ≠ 1 ∧ b ≠ 0) then .fails .length
      else if 32 ≤ d.toNat ∧ d ≠ 255 then .fails .address
      else .goesOn { a with length := some b, toCome := b.toNat + 2, check := checkByte a.check b } := by
  simp only [takeCharacter, takeField, takeLength, hk, hd, hs, hq, h, if_true]
  refine if_congr ?_ rfl (if_congr ?_ rfl rfl)
  · simp only [Bool.or_eq_true, Bool.and_eq_true, Bool.not_eq_true', decide_eq_true_eq, decide_eq_false_iff_not,
      frameKindOf_eq_data, kindCode]
    exact Iff.rfl
  · simp only [Bool.and_eq_true, decide_eq_true_eq]
    exact Iff.rfl

theorem takeCharacter_rest {k d src q n : Byte} (hk : a.kind = some k) (hd : a.dest = some d) (hs : a.source = some src)
    (hq : a.seq = some q) (h : a.length = some n) : takeCharacter a b true =
      if 3 ≤ a.toCome then
        .goesOn { a with payload := a.payload ++ [b], toCome := a.toCome - 1, check := checkByte a.check b }
      else a.checkHigh.elim (.goesOn { a with checkHigh := some b, toCome := a.toCome - 1 })
        (fun high => if high.toNat * 256 + b.toNat = a.check.toNat then .passes else .failsAtEnd .check) := by
  simp only [takeCharacter, takeField, takeRest, hk, hd, hs, hq, h, if_true, Nat.lt_iff_add_one_le]
  cases a.checkHigh <;> rfl

/-- Settles O26, field by field. -/
theorem validityChecksInOrder : Obligations.ValidityChecksInOrder := fun a b =>
  ⟨takeCharacter_badStop a b, takeCharacter_kind, fun _ hk => takeCharacter_dest hk, fun _ _ hk hd => takeCharacter_source hk hd,
    fun _ _ _ hk hd hs => takeCharacter_seq hk hd hs, fun _ _ _ _ hk hd hs hq => takeCharacter_length hk hd hs hq,
    fun _ _ _ _ _ hk hd hs hq => takeCharacter_rest hk hd hs hq⟩

/-! ### The law of assembly (R5, R9) -/

theorem newAssembly_law (own : Bool) : AssemblyLaw (newAssembly own) := by
  constructor <;> simp [newAssembly, Assembly.covered, checkOf]

theorem checkOf_append (bs : List Byte) (b : Byte) : checkOf (bs ++ [b]) = checkByte (checkOf bs) b := by
  simp [checkOf]

theorem AssemblyLaw.payload_le (hl : AssemblyLaw a) : a.payload.length ≤ 60 := by
  cases hn : a.length with
  | none => simp [(hl.before_length hn).1]
  | some n =>
    have short := (hl.length_passed n hn).1
    have count := hl.to_come n hn
    by_cases hc : a.checkHigh = none
    · have := count.1 hc
      omega
    · have := count.2 hc
      omega

/-- A field that follows one not yet taken is not taken either (R9). -/
theorem AssemblyLaw.in_order (hl : AssemblyLaw a) :
    (a.kind = none → a.dest = none) ∧ (a.dest = none → a.source = none) ∧ (a.source = none → a.seq = none) ∧
      (a.seq = none → a.length = none) := by
  obtain ⟨-, -, -, hd, hs, hq, hn, -, -, -⟩ := hl
  simp only [← Option.not_isSome_iff_eq_none]
  tauto

/-- A character that passes keeps the law: it joins the fields in order and the running check (R5, R9). -/
theorem takeCharacter_law {stop : Bool} (hl : AssemblyLaw a) (h : takeCharacter a b stop = .goesOn a') :
    AssemblyLaw a' := by
  obtain ⟨kindFirst, destFirst, sourceFirst, seqFirst⟩ := hl.in_order
  have payload := hl.before_length
  obtain ⟨check, collided, known, -, -, -, -, -, passed, count⟩ := hl
  cases stop with
  | false =>
    rw [takeCharacter_badStop] at h
    split at h <;> cases h
  | true =>
    cases hk : a.kind with
    | none =>
      rw [takeCharacter_kind hk] at h
      split at h <;> cases h
      constructor <;> simp_all [Assembly.covered, checkOf, frameKindOf_isSome, kindCode]
    | some k =>
      cases hd : a.dest with
      | none =>
        rw [takeCharacter_dest hk hd] at h
        cases h
        constructor <;> simp_all [Assembly.covered, checkOf]
      | some d =>
        cases hs : a.source with
        | none =>
          rw [takeCharacter_source hk hd hs] at h
          cases h
          constructor <;> simp_all [Assembly.covered, checkOf]
        | some src =>
          cases hq : a.seq with
          | none =>
            rw [takeCharacter_seq hk hd hs hq] at h
            cases h
            constructor <;> simp_all [Assembly.covered, checkOf]
          | some q =>
            cases hn : a.length with
            | none =>
              rw [takeCharacter_length hk hd hs hq hn] at h
              split_ifs at h with hlen hdest
              cases h
              constructor <;> simp_all [Assembly.covered, checkOf, frameKindOf_eq_data, kindCode]
              · have short : b.toNat ≤ 60 := by
                  by_cases data : k.toNat / 16 = 1
                  · exact hlen.1 data
                  · simp [hlen.2 data]
                exact ⟨short, (Nat.lt_or_ge d.toNat 32).imp Nat.le_of_lt_succ hdest⟩
            | some n =>
              rw [takeCharacter_rest hk hd hs hq hn] at h
              cases hc : a.checkHigh with
              | none =>
                rw [hc] at h
                split_ifs at h <;> cases h <;> constructor <;> simp_all [Assembly.covered, checkOf] <;> omega
              | some high =>
                have last := (count n hn).2 (by simp [hc])
                rw [hc, if_neg (by omega)] at h
                dsimp only [Option.elim] at h
                split_ifs at h

end Sys2Proof.Machine

/-! PROOFS. What host commands and events leave as it is, the law of assembly and payloads (R5, R9, R52, R115) with what a
character does to the Frame Receiver. -/

namespace Sys2Proof.Machine

variable {s t : State}

/-! ### What commands and events leave as it is -/

theorem leaveStation_frame (s : State) : (leaveStation s).pins = s.pins ∧ (leaveStation s).lif = s.lif ∧
    (leaveStation s).frx = s.frx ∧ (leaveStation s).rpu = s.rpu ∧ (leaveStation s).hpt = s.hpt ∧
    (leaveStation s).choices = s.choices ∧ (leaveStation s).pending = s.pending := by
  unfold leaveStation
  dsimp only
  split <;> simp

theorem freeEntry_frame (n : Notice) (s : State) : (freeEntry n s).pins = s.pins ∧ (freeEntry n s).lif = s.lif ∧
    (freeEntry n s).frx = s.frx ∧ (freeEntry n s).rpu = s.rpu ∧ (freeEntry n s).hpt = s.hpt ∧
    (freeEntry n s).choices = s.choices ∧ (freeEntry n s).pending = s.pending := by
  unfold freeEntry
  (repeat' split) <;> simp

/-- A host command's effect leaves the pins, the Frame Receiver, the Reply Unit and the model's own fields as they are. Of the
Line Interface it can set the divisor of the next start bit, of the port the soft reset's due (R16, R166). -/
theorem effectOf_frame (c : HostCommand) (s : State) : (effectOf c s).1.pins = s.pins ∧ (effectOf c s).1.frx = s.frx ∧
    (effectOf c s).1.rpu = s.rpu ∧ (effectOf c s).1.choices = s.choices ∧ (effectOf c s).1.pending = s.pending ∧
    ((effectOf c s).1.lif = s.lif ∨ ∃ d, (effectOf c s).1.lif = s.lif.withNewDivisor d) ∧
    (effectOf c s).1.hpt = { s.hpt with softResetDue := s.hpt.softResetDue || decide (c = .softReset) } := by
  cases c
  case setField id v =>
    simp only [effectOf, cmdSetField]
    (repeat' split) <;> (try unfold fieldWritten) <;> (try split) <;> simp [setPool]
  case leave =>
    simp only [effectOf, cmdLeave]
    split <;> simp [leaveStation_frame]
  case join =>
    simp only [effectOf, cmdJoin, joinStation]
    (repeat' split) <;> simp
  case submit =>
    simp only [effectOf, cmdSubmit]
    (repeat' split) <;> simp
  case cancel =>
    simp only [effectOf, cmdCancel]
    (repeat' split) <;> simp
  case readFrame =>
    simp only [effectOf, cmdReadFrame]
    split <;> simp
  case flushPool =>
    simp only [effectOf, cmdFlushPool]
    split <;> simp
  case readNotice =>
    simp only [effectOf, cmdReadNotice]
    split <;> simp [freeEntry_frame]
  case getField =>
    simp only [effectOf, cmdGetField]
    split <;> simp
  case queryEntry =>
    simp only [effectOf, cmdQueryEntry]
    (repeat' split) <;> simp
  case readPeer =>
    simp only [effectOf, cmdReadPeer]
    split <;> simp
  all_goals simp [effectOf, cmdNop, cmdReadStatus, cmdSoftReset, cmdReadCounters, cmdUnknown]

theorem silenceExpires_frame (p : Fin 32) (s : State) : (silenceExpires p s).pins = s.pins ∧
    (silenceExpires p s).lif = s.lif ∧ (silenceExpires p s).frx = s.frx ∧ (silenceExpires p s).rpu = s.rpu ∧
    (silenceExpires p s).hpt = s.hpt ∧ (silenceExpires p s).pending = s.pending := by
  unfold silenceExpires
  split <;> simp

theorem pauseExpires_frame (p : Fin 32) (s : State) : (pauseExpires p s).pins = s.pins ∧
    (pauseExpires p s).lif = s.lif ∧ (pauseExpires p s).frx = s.frx ∧ (pauseExpires p s).rpu = s.rpu ∧
    (pauseExpires p s).hpt = s.hpt ∧ (pauseExpires p s).pending = s.pending := by
  unfold pauseExpires
  split <;> simp

/-- The tick counts timers, and of the Line Interface the tick base and, at a boundary, the bit time (R16, R17). -/
theorem tickEvent_frame (s : State) : (tickEvent s).pins = s.pins ∧ (tickEvent s).frx = s.frx ∧
    (tickEvent s).rpu = s.rpu ∧ (tickEvent s).hpt = s.hpt ∧ (tickEvent s).pending = s.pending ∧
    (tickEvent s).lif = { (if s.lif.tickBase = 0 then s else atBoundary s).lif with tickBase := 0 } := by
  unfold tickEvent
  by_cases h : s.lif.tickBase = 0 <;> simp [h, takeBitTime_eq, atBoundary]

/-- An event taken out of reset leaves the pins, the port and the waiting commands as they are, and, unless it is a character,
the Frame Receiver. -/
theorem runningEvent_frame {i : Instr} {f : State → State} (hf : runningEvent i = some f) (s : State) :
    (f s).pins = s.pins ∧ (f s).hpt = s.hpt ∧ (f s).pending = s.pending ∧
      ((f s).frx = s.frx ∨ ∃ value stop, i = .characterComplete value stop) := by
  cases i <;> cases hf
  case startBit =>
    unfold startBitBegins
    split <;> simp
  case startBitGlitch =>
    unfold startBitRejected
    split <;> simp
  case characterComplete =>
    unfold characterCompletes
    split <;> simp
  case holdingRelease =>
    unfold holdingEnds
    split <;> simp
  case receiverArmed =>
    unfold receiverArms
    split <;> simp
  case ltxStartBit => simp
  case lastStopBitEnd => simp
  case ldeRelease =>
    unfold ldeReleases
    split <;> simp
  case echoLoss =>
    unfold echoLossFound
    split <;> simp
  case tick => simp [tickEvent_frame]
  case silenceTimerExpiry => simp [silenceExpires_frame]
  case pauseTimerExpiry => simp [pauseExpires_frame]
  case beaconTimerExpiry =>
    unfold beaconTimerEnds
    split <;> simp
  case refreshTimerExpiry =>
    unfold refreshTimerEnds
    split <;> simp
  case deliveryTimerExpiry =>
    unfold deliveryTimerEnds
    split <;> simp

theorem requestFrame_frame (c : CurrentFrame) (s : State) : (requestFrame c s).pins = s.pins ∧
    (requestFrame c s).frx = s.frx ∧ (requestFrame c s).rpu = s.rpu ∧ (requestFrame c s).hpt = s.hpt ∧
    (requestFrame c s).pending = s.pending := by
  unfold requestFrame
  split <;> simp

theorem ladderAtIdle_frame (s : State) : (ladderAtIdle s).pins = s.pins ∧ (ladderAtIdle s).frx = s.frx ∧
    (ladderAtIdle s).rpu = s.rpu ∧ (ladderAtIdle s).hpt = s.hpt ∧ (ladderAtIdle s).pending = s.pending := by
  unfold ladderAtIdle slotOpens
  (repeat' split) <;> simp [requestFrame_frame]

theorem windowEnds_frame (s : State) : (windowEnds s).pins = s.pins ∧ (windowEnds s).lif = s.lif ∧
    (windowEnds s).frx = s.frx ∧ (windowEnds s).hpt = s.hpt ∧ (windowEnds s).pending = s.pending := by
  unfold windowEnds afterWait
  (repeat' split) <;> simp

theorem replyStarts_frame (s : State) : (replyStarts s).pins = s.pins ∧ (replyStarts s).frx = s.frx ∧
    (replyStarts s).txq = s.txq ∧ (replyStarts s).hpt = s.hpt ∧ (replyStarts s).pending = s.pending := by
  unfold replyStarts
  (repeat' split) <;> simp

theorem listeningAtIdle_frame (s : State) : (listeningAtIdle s).pins = s.pins ∧ (listeningAtIdle s).lif = s.lif ∧
    (listeningAtIdle s).frx = s.frx ∧ (listeningAtIdle s).rpu = s.rpu ∧ (listeningAtIdle s).hpt = s.hpt ∧
    (listeningAtIdle s).pending = s.pending := by
  unfold listeningAtIdle
  (repeat' split) <;> simp

/-- An idle-time event leaves the pins, the port and the waiting commands as they are. -/
theorem idleEvent_frame {c : ConfigRecord} {i : Instr} {k : Nat} {f : State → State}
    (hf : idleEvent c i = some (k, f)) (s : State) :
    (f s).pins = s.pins ∧ (f s).hpt = s.hpt ∧ (f s).pending = s.pending := by
  cases i <;> cases hf
  case idleGapLimit => simp
  case replyStart => simp [replyStarts_frame]
  case replyWindowEnd => simp [windowEnds_frame]
  case slotOpening => simp [ladderAtIdle_frame]
  case listeningRoundEnd => simp [listeningAtIdle_frame]

/-! ### What becomes of the frame in assembly -/

theorem failFrame_frx (a : Assembly) (cause : BadCause) (next : FrameReceiver) (s : State) :
    (failFrame a cause next s).frx = next := by
  unfold failFrame
  dsimp only
  split <;> simp

theorem passFrame_frx (a : Assembly) (s : State) : (passFrame a s).frx = .awaitSync := by
  unfold passFrame handPassed
  (repeat' split) <;> simp

theorem takeSync_frx (value : Byte) (stop own : Bool) (s : State) : (takeSync value stop own s).frx =
    if value = Config.lead ∧ stop = true then .inFrame (newAssembly own) else s.frx := by
  unfold takeSync
  by_cases hl : value = Config.lead <;> cases stop <;> cases own <;> simp [hl]

/-- What a character leaves in assembly: a new frame, the frame that goes on with it, or none (R7 to R13). -/
theorem receiveCharacter_frx (value : Byte) (stop own : Bool) (s : State) :
    (receiveCharacter value stop own s).frx =
      match s.frx with
      | .awaitSync => if value = Config.lead ∧ stop = true then .inFrame (newAssembly own) else .awaitSync
      | .inFrame a =>
        match takeCharacter a value stop with
        | .goesOn a' => .inFrame a'
        | .fails _ => .draining
        | .failsAtEnd _ => .awaitSync
        | .passes => .awaitSync
      | .draining => .draining := by
  unfold receiveCharacter
  cases hs : s.frx with
  | awaitSync => simp [takeSync_frx, hs]
  | inFrame a =>
    unfold takeInFrame
    dsimp only
    cases takeCharacter a value stop <;> simp [failFrame_frx, passFrame_frx]
  | draining => exact hs

theorem receiveGap_frx (s : State) : (receiveGap s).frx = .awaitSync := by
  unfold receiveGap
  split <;> simp_all [failFrame_frx]

theorem compareEcho_frx (value : Byte) (stop : Bool) (s : State) :
    (compareEcho value stop s).frx = s.frx ∨ (compareEcho value stop s).frx = s.frx.atCollision := by
  unfold compareEcho collide
  (repeat' split) <;> simp

/-- A complete character leaves the Frame Receiver as it took the character, a collision marked or not (R7 to R13, R25). -/
theorem characterCompletes_frx (value : Byte) (stop : Bool) (s : State) :
    (characterCompletes value stop s).frx = s.frx ∨ ∃ own,
      ((characterCompletes value stop s).frx = (receiveCharacter value stop own (characterHeard stop s)).frx ∨
        (characterCompletes value stop s).frx = (receiveCharacter value stop own (characterHeard stop s)).frx.atCollision) := by
  unfold characterCompletes
  split
  · rename_i own d _
    refine .inr ⟨own, ?_⟩
    simp only [finishOwnFrame_frame]
    exact compareEcho_frx value stop _
  · exact .inl rfl

/-! ### The law of assembly and payloads -/

theorem receiveCharacter_law (value : Byte) (stop own : Bool) (h : ReceiverLaw s) :
    ReceiverLaw (receiveCharacter value stop own s) := by
  intro a ha
  rw [receiveCharacter_frx] at ha
  split at ha
  · split at ha <;> cases ha
    exact newAssembly_law own
  · rename_i b hb
    split at ha <;> cases ha
    rename_i hg
    exact takeCharacter_law (h b hb) hg
  · cases ha

/-- The mark of a collision is put on an own-marked frame alone (R49, R50). -/
theorem FrameReceiver.atCollision_law {r : FrameReceiver} (h : ∀ a, r = .inFrame a → AssemblyLaw a) :
    ∀ a, r.atCollision = .inFrame a → AssemblyLaw a := by
  cases r with
  | inFrame b =>
    rintro _ ⟨⟩
    obtain ⟨check, -, known, dest, source, seq, length, before, passed, count⟩ := h b rfl
    exact ⟨check, id, known, dest, source, seq, length, before, passed, count⟩
  | awaitSync => rintro _ ⟨⟩
  | draining => rintro _ ⟨⟩

theorem receiverLaw_congr (h : ReceiverLaw s) (hf : t.frx = s.frx) : ReceiverLaw t := by
  unfold ReceiverLaw
  rwa [hf]

theorem runningEvent_receiverLaw {i : Instr} {f : State → State} (hf : runningEvent i = some f) (h : ReceiverLaw s) :
    ReceiverLaw (f s) := by
  obtain ⟨-, -, -, same | ⟨value, stop, rfl⟩⟩ := runningEvent_frame hf s
  · exact receiverLaw_congr h same
  · cases hf
    obtain same | ⟨own, taken | marked⟩ := characterCompletes_frx value stop s
    · exact receiverLaw_congr h same
    · exact receiverLaw_congr (receiveCharacter_law value stop own (s := characterHeard stop s) h) taken
    · unfold ReceiverLaw
      rw [marked]
      exact FrameReceiver.atCollision_law (receiveCharacter_law value stop own (s := characterHeard stop s) h)

theorem idleEvent_receiverLaw {c : ConfigRecord} {i : Instr} {k : Nat} {f : State → State}
    (hf : idleEvent c i = some (k, f)) (h : ReceiverLaw s) : ReceiverLaw (f s) := by
  cases i <;> cases hf
  case idleGapLimit =>
    intro a ha
    rw [receiveGap_frx] at ha
    cases ha
  case replyStart => exact receiverLaw_congr h (by simp [replyStarts_frame])
  case replyWindowEnd => exact receiverLaw_congr h (by simp [windowEnds_frame])
  case slotOpening => exact receiverLaw_congr h (by simp [ladderAtIdle_frame])
  case listeningRoundEnd => exact receiverLaw_congr h (by simp [listeningAtIdle_frame])

/-- A good frame's payload is that of its assembly (R11). -/
theorem goodFrameOf_payload {a : Assembly} {f : GoodFrame} (h : goodFrameOf a = some f) : f.payload = a.payload := by
  unfold goodFrameOf at h
  split at h
  · simp only [Option.map_eq_some_iff] at h
    obtain ⟨_, -, rfl⟩ := h
    rfl
  · cases h

theorem payloadLaw_congr (hl : PayloadLaw s) (hu : t.rxp.urgent = s.rxp.urgent) (hn : t.rxp.normal = s.rxp.normal)
    (he : t.txq.entries = s.txq.entries) : PayloadLaw t :=
  ⟨by simpa only [hu, hn] using hl.records, by simpa only [he] using hl.entries⟩

/-- An entry replaced by none, or by one with a payload in range. -/
theorem PayloadLaw.setEntry (hl : PayloadLaw s) (h : Fin 16) {e : Option Entry}
    (he : ∀ x, e = some x → x.payload.length ≤ 60) : PayloadLaw (setEntry h e s) := by
  refine ⟨hl.records, fun k x hx => ?_⟩
  rw [setEntry_get] at hx
  split at hx
  · exact he x hx
  · exact hl.entries k x hx

theorem Move.payload {heard : GoodFrame → Prop} (h : Move heard s t) (hh : ∀ f, heard f → f.payload.length ≤ 60)
    (hl : PayloadLaw s) : PayloadLaw t := by
  cases h
  case aside h => exact payloadLaw_congr hl (by rw [h]) (by rw [h]) (by rw [h])
  case queue q hq => exact payloadLaw_congr hl rfl rfl hq
  case rework k e e' he _ _ hp => exact hl.setEntry k (by rintro _ ⟨⟩; rw [hp]; exact hl.entries k e he)
  case complete k e e' o he _ hp =>
    rw [completeEntry_eq]
    have done := hl.setEntry k (e := some { e' with state := .complete o }) (by rintro _ ⟨⟩; exact hp ▸ hl.entries k e he)
    exact payloadLaw_congr done rfl rfl rfl
  case repause p b =>
    refine ⟨hl.records, fun k e he => ?_⟩
    simp only [pauseEntries_txq, mapCells_get_fin, Option.map_eq_some_iff] at he
    obtain ⟨e', he', rfl⟩ := he
    unfold entryAfterPause
    (repeat' split) <;> exact hl.entries k e' he'
  case submit k dest payload _ hp =>
    have taken := hl.setEntry k (e := some (submittedEntry s dest payload)) (by rintro _ ⟨⟩; exact hp)
    exact payloadLaw_congr taken rfl rfl rfl
  case cancel k e _ _ => exact hl.setEntry k (by simp)
  case readNotice n rest _ =>
    have taken : PayloadLaw { s with notices := rest } := payloadLaw_congr hl rfl rfl rfl
    unfold freeEntry
    split
    · split
      · exact taken.setEntry _ (by simp)
      · exact taken
    · exact taken
  case fill p _ hr =>
    refine ⟨fun r hm => ?_, by simpa using hl.entries⟩
    simp only [judgeFill_frame, setPool_rxp] at hm
    rcases hr r hm with old | ⟨f, hf, hp⟩
    · exact hl.records r old
    · exact hp ▸ hh f hf
  case deliver p hp => exact payloadLaw_congr hl hp.1 hp.2.1 rfl
  case join => exact payloadLaw_congr hl (by simp [joinStation]) (by simp [joinStation]) (by simp [joinStation])
  case announce => exact payloadLaw_congr hl rfl rfl rfl
  all_goals exact payloadLaw_congr hl (by simp) (by simp) (by simp)

theorem payloadLaw_afterReset (hq : s.txq = TransmitQueue.afterReset) (hp : s.rxp = ReceivePool.afterReset) :
    PayloadLaw s := by
  refine ⟨by simp [hp, ReceivePool.afterReset], fun h e he => ?_⟩
  simp [hq, TransmitQueue.afterReset] at he

/-- A stored payload comes from a frame in assembly, so the two laws go together. -/
theorem assemblyLaw_keptByEvents : KeptByEvents fun s => ReceiverLaw s ∧ PayloadLaw s := by
  have moves : ∀ s t, ReceiverLaw s → PayloadLaw s → Moves (HeardIn s) s t → PayloadLaw t := by
    intro s t hr hp hm
    induction hm with
    | refl => exact hp
    | tail _ last ih =>
      refine last.payload ?_ ih
      rintro f ⟨a, -, -, ha, -, hf⟩
      rw [goodFrameOf_payload hf]
      exact (hr a ha).payload_le
  have same : ∀ s t : State, t.frx = s.frx → t.rxp = s.rxp → t.txq = s.txq → ReceiverLaw s ∧ PayloadLaw s →
      ReceiverLaw t ∧ PayloadLaw t := fun s t hf hp hq h =>
    ⟨receiverLaw_congr h.1 hf, payloadLaw_congr h.2 (by rw [hp]) (by rw [hp]) (by rw [hq])⟩
  have reset : ∀ c high low lrx (s : State), ReceiverLaw (resetBlocks c high low lrx s) ∧ PayloadLaw (resetBlocks c high low lrx s) :=
    fun _ _ _ _ _ => ⟨by rintro _ ⟨⟩, payloadLaw_afterReset rfl rfl⟩
  refine ⟨fun s t hs h => ?_, fun c s hc h => ⟨receiverLaw_congr h.1 (by simp [effectOf_frame]), ?_⟩,
    fun _ _ _ => reset _ _ _ _ _, fun _ _ _ => reset _ _ _ _ _, fun s h => same s _ (by simp) (by simp) (by simp) h, fun i f s hf h => ?_, fun i k f s hf _ h => ?_⟩
  · exact same s t (by rw [hs]) (by rw [hs]) (by rw [hs]) h
  · rcases effectOf_moves hc s with hm | ⟨_, v, f, r, -, -, -, -, he⟩
    · exact moves s _ h.1 h.2 hm
    · rw [he, fieldWritten_eq]
      refine payloadLaw_congr h.2 ?_ ?_ rfl <;> dsimp only <;> split <;> simp [poolAfterTimeoutWrite_eq]
  · exact ⟨runningEvent_receiverLaw hf h.1, moves s _ h.1 h.2 (runningEvent_moves hf s)⟩
  · exact ⟨idleEvent_receiverLaw hf (receiverLaw_congr h.1 (by simp)), moves s _ h.1 h.2 (idleEvent_moves hf)⟩

/-- Settles O56: each character keeps the law of assembly, and payloads come from SUBMIT and from frames that keep it. -/
theorem assemblyStaysSound : Obligations.AssemblyStaysSound := assemblyLaw_keptByEvents.step

end Sys2Proof.Machine

/-! PROOFS. The frame of R2 to R5, built and heard whole (R9, R11). -/

namespace Sys2Proof.Machine

/-! ### The frame as it is built (R2, R3, R5) -/

theorem checkBit_eq (r : Check) (d : Bool) : checkBit r d = if (r.msb != d) = true then (r <<< 1) ^^^ 0x1021 else r <<< 1 := by
  unfold checkBit
  rw [BitVec.msb_eq_getLsbD_last]

theorem checkByte_eq (r : Check) (b : Byte) :
    checkByte r b = [7, 6, 5, 4, 3, 2, 1, 0].foldl (fun r i => checkBit r (b.getLsbD i)) r := rfl

theorem FrameKind.code_eq (kind : FrameKind) : kind.code =
    if kind = .data then 1 else if kind = .ack then 2 else if kind = .pause then 3 else if kind = .resume then 4 else 5 := by
  cases kind <;> rfl

theorem frameKindOf_code (kind : FrameKind) : frameKindOf kind.code = some kind := by cases kind <;> rfl

theorem FrameKind.code_range (kind : FrameKind) : 1 ≤ kind.code ∧ kind.code ≤ 5 := by cases kind <;> decide

/-! ### The frame as it is heard (R9, R11) -/

theorem kindChar_toNat {kind : FrameKind} {modifier : Nat} (h : modifier ≤ 15) :
    (byteOf (kind.code * 16 + modifier)).toNat = kind.code * 16 + modifier := by
  have := kind.code_range
  exact byteOf_toNat_of_lt (by omega)

theorem assembleAll_append (a : Assembly) (xs ys : List Byte) :
    assembleAll a (xs ++ ys) = (assembleAll a xs).bind fun a' => assembleAll a' ys := by
  induction xs generalizing a with
  | nil => rfl
  | cons x xs ih =>
    simp only [List.cons_append, assembleAll]
    cases takeCharacter a x true <;> simp [ih]

theorem assembleAll_goesOn {a a' : Assembly} {b : Byte} (h : takeCharacter a b true = .goesOn a') (rest : List Byte) :
    assembleAll a (b :: rest) = assembleAll a' rest := by
  simp only [assembleAll, h]

/-- A payload of the length that the length character gave passes character by character (R9). -/
theorem assembleAll_payload {k d src q n : Byte} (payload : List Byte) : ∀ a : Assembly, a.kind = some k → a.dest = some d →
    a.source = some src → a.seq = some q → a.length = some n → a.toCome = payload.length + 2 →
    assembleAll a payload =
      some { a with payload := a.payload ++ payload, toCome := 2, check := payload.foldl checkByte a.check } := by
  induction payload with
  | nil =>
    intro a _ _ _ _ _ hc
    rcases a
    simp_all [assembleAll]
  | cons b rest ih =>
    intro a hk hd hs hq hn hc
    have goes := takeCharacter_rest (b := b) hk hd hs hq hn
    rw [if_pos (by rw [hc, List.length_cons]; omega)] at goes
    rw [assembleAll_goesOn goes]
    have left : a.toCome - 1 = rest.length + 2 := by rw [hc, List.length_cons]; omega
    refine (ih { a with payload := a.payload ++ [b], toCome := a.toCome - 1, check := checkByte a.check b }
      hk hd hs hq hn left).trans ?_
    simp

/-- The assembly of a header with these fields, its length character passed (R9). -/
def headerTaken (own : Bool) (k d src q n : Byte) : Assembly where
  ownMark := own
  collided := false
  kind := some k
  dest := some d
  source := some src
  seq := some q
  length := some n
  payload := []
  toCome := n.toNat + 2
  check := checkOf [k, d, src, q, n]
  checkHigh := none

theorem assembleAll_header {own : Bool} {k d src q n : Byte} (hk : 1 ≤ k.toNat / 16 ∧ k.toNat / 16 ≤ 5)
    (hn : n.toNat ≤ 60) (hz : k.toNat / 16 ≠ 1 → n = 0) (hd : d.toNat ≤ 31 ∨ d = 255) (rest : List Byte) :
    assembleAll (newAssembly own) (k :: d :: src :: q :: n :: rest) = assembleAll (headerTaken own k d src q n) rest := by
  have kind := takeCharacter_kind (a := newAssembly own) (b := k) rfl
  rw [if_pos hk] at kind
  rw [assembleAll_goesOn kind, assembleAll_goesOn (takeCharacter_dest rfl rfl),
    assembleAll_goesOn (takeCharacter_source rfl rfl rfl), assembleAll_goesOn (takeCharacter_seq rfl rfl rfl rfl)]
  have length := takeCharacter_length (a := { newAssembly own with
    kind := some k, dest := some d, source := some src, seq := some q, check := checkOf [k, d, src, q] }) (b := n)
    rfl rfl rfl rfl rfl
  rw [if_neg (by rintro (⟨-, h⟩ | ⟨h, h'⟩); omega; exact h' (hz h)),
    if_neg (by rintro ⟨h, h'⟩; rcases hd with hd | hd; omega; exact h' hd)] at length
  exact assembleAll_goesOn length rest

/-- The check's two bytes spell the check (R5). -/
theorem checkBytes_toNat (c : Check) : (byteOf (c.toNat / 256)).toNat * 256 + (byteOf c.toNat).toNat = c.toNat := by
  rw [byteOf_toNat, byteOf_toNat]
  omega

/-- A built frame after its lead: the header, the payload and the high check byte assemble, and the low one passes. -/
theorem frameBytes_heard {kind : FrameKind} {modifier : Nat} (dest source seq : Byte) {payload : List Byte} (own : Bool)
    (hm : modifier ≤ 15) (hd : dest.toNat ≤ 31 ∨ dest = 255) (hp : payload.length ≤ 60) (hz : kind ≠ .data → payload = []) :
    ∃ (middle : List Byte) (last : Byte) (a : Assembly),
      frameBytes kind modifier dest source seq payload = 0xA6 :: middle ++ [last] ∧
      assembleAll (newAssembly own) middle = some a ∧ takeCharacter a last true = .passes ∧ a.ownMark = own ∧
      goodFrameOf a =
        some { kind := kind, modifier := modifier, dest := dest, source := source, seq := seq, payload := payload } := by
  have code := kind.code_range
  have char := kindChar_toNat (kind := kind) hm
  have upper : (kind.code * 16 + modifier) / 16 = kind.code := by omega
  have lower : (kind.code * 16 + modifier) % 16 = modifier := by omega
  have count : (byteOf payload.length).toNat = payload.length := byteOf_toNat_of_lt (by omega)
  set k := byteOf (kind.code * 16 + modifier)
  set n := byteOf payload.length
  set check := checkOf ([k, dest, source, seq, n] ++ payload)
  have header := assembleAll_header (own := own) (src := source) (q := seq) (k := k) (n := n) (by omega) (by omega)
    (fun h => by
      have none := hz (by rintro rfl; exact h (by rw [char, upper]; rfl))
      simp [n, none, byteOf]) hd (payload ++ [byteOf (check.toNat / 256)])
  have body := assembleAll_payload payload (headerTaken own k dest source seq n) rfl rfl rfl rfl rfl (by
    simp [headerTaken, count])
  refine ⟨k :: dest :: source :: seq :: n :: (payload ++ [byteOf (check.toNat / 256)]), byteOf check.toNat,
    { headerTaken own k dest source seq n with
      payload := payload, toCome := 1, check := check, checkHigh := some (byteOf (check.toNat / 256)) }, ?_, ?_, ?_, rfl, ?_⟩
  · simp [frameBytes, Config.lead, check, k, n]
  · rw [header, assembleAll_append, body]
    have high := takeCharacter_rest (a := { headerTaken own k dest source seq n with
      payload := payload, toCome := 2, check := check }) (b := byteOf (check.toNat / 256)) rfl rfl rfl rfl rfl
    rw [if_neg (by simp)] at high
    simpa [headerTaken, check, checkOf, assembleAll] using assembleAll_goesOn high []
  · rw [takeCharacter_rest rfl rfl rfl rfl rfl, if_neg (by simp)]
    simp only [Option.elim, checkBytes_toNat, if_true]
  · simp [goodFrameOf, headerTaken, kindCode, modifierOf, char, upper, lower, frameKindOf_code]

/-- Settles O27: the layout is that of `frameBytes`, and each of its characters passes where it stands. -/
theorem builtFrameIsHeardGood : Obligations.BuiltFrameIsHeardGood := by
  refine ⟨fun kind modifier dest source seq payload => ?_, fun kind modifier dest source seq payload own hm hd hp hz =>
    frameBytes_heard dest source seq own hm hd hp hz⟩
  simp only [← checkBit_eq, ← checkByte_eq, ← FrameKind.code_eq]
  rfl

end Sys2Proof.Machine

/-! PROOFS. The law of the Line Interface (R16 to R27): what each event on the line does to it. -/

namespace Sys2Proof.Machine

variable {l : LineInterface} {s : State}

/-! ### Conditions of the transmitter (R23 to R27) -/

theorem isOpen_iff : l.isOpen = true ↔ ∃ o, l.own = some o ∧ o.comparison = .opened := by
  unfold LineInterface.isOpen
  cases l.own <;> simp

theorem isCut_iff : l.isCut = true ↔ ∃ o, l.own = some o ∧ (o.comparison = .collided ∨ o.comparison = .echoLost) := by
  unfold LineInterface.isCut
  cases l.own <;> simp

theorem canSendCharacter_iff : canSendCharacter l = true ↔ (∃ o, l.own = some o ∧ o.comparison = .opened) ∧
    l.echo.length < 4 ∧ (l.transmitter = .lead ∨ l.transmitter = .sending) := by
  simp only [canSendCharacter, Bool.and_eq_true, Bool.or_eq_true, decide_eq_true_eq, isOpen_iff, and_assoc]
  exact Iff.rfl

theorem isLastCharacter_iff : isLastCharacter l = true ↔ l.transmitter = .sending ∧ l.toSend = [] := by
  simp [isLastCharacter]

theorem canReleaseLde_iff : canReleaseLde l = true ↔ l.transmitter = .trailing ∨ (l.transmitter = .sending ∧
    ∃ o, l.own = some o ∧ (o.comparison = .collided ∨ o.comparison = .echoLost)) := by
  simp [canReleaseLde, isCut_iff]

/-! ### The bit time, the idle time and the receiver (R16, R19, R20) -/

theorem LineLaw.divisors (h : LineLaw l) (d d' : Nat) : LineLaw { l with divisor := d, startDivisor := d' } := by
  obtain ⟨lde, absent, ended, echo, judged, cut, lead, begun, awaited, sending, armed, receiving, holding, unarmed, tick⟩ := h
  constructor <;> assumption

theorem LineLaw.ticks (h : LineLaw l) {n : Nat} (hn : n < 256) : LineLaw { l with tickBase := n } := by
  obtain ⟨lde, absent, ended, echo, judged, cut, lead, begun, awaited, sending, armed, receiving, holding, unarmed, -⟩ := h
  constructor <;> assumption

theorem idleReaches_iff {k : Nat} : idleReaches k s = true ↔
    running s = true ∧ s.lif.idleCounting = true ∧ 1 ≤ k ∧ s.lif.idle ≤ k := by
  simp [idleReaches, and_assoc]

/-- The idle time moves only while it counts (R20). -/
theorem LineLaw.idles (h : LineLaw l) (hc : l.idleCounting = true) (k : Nat) : LineLaw { l with idle := k } := by
  obtain ⟨lde, absent, ended, echo, judged, cut, lead, begun, awaited, sending, armed, receiving, holding, unarmed, tick⟩ := h
  constructor <;> grind

/-- The receiver moves with the idle time back at 0, held while a character is received or the line is held (R19, R20). -/
theorem LineLaw.heard (h : LineLaw l) {r : Receiver} {counting : Bool}
    (hr : counting = true ↔ r = .armed ∨ r = .unarmed true) : LineLaw (l.heard r counting) := by
  obtain ⟨lde, absent, ended, echo, judged, cut, lead, begun, awaited, sending, -, -, -, -, tick⟩ := h
  unfold LineInterface.heard
  constructor <;> grind

theorem LineLaw.arms (h : LineLaw l) : LineLaw { l with receiver := .armed, idleCounting := true } := by
  obtain ⟨lde, absent, ended, echo, judged, cut, lead, begun, awaited, sending, -, -, -, -, tick⟩ := h
  constructor <;> grind

theorem LineLaw.afterBitTime (h : LineLaw l) : LineLaw l.afterBitTime := by
  obtain ⟨lde, absent, ended, echo, judged, cut, lead, begun, awaited, sending, armed, receiving, holding, unarmed, tick⟩ := h
  have next : nextTickBase l.tickBase < 256 := by
    unfold nextTickBase Config.tickLength
    split <;> omega
  unfold LineInterface.afterBitTime
  constructor <;> grind [List.map_eq_nil_iff]

/-! ### The transmitter (R22, R23) -/

/-- A request is taken with no own frame in progress, and the driver then is on (R22). -/
theorem LineLaw.requested (h : LineLaw l) (bytes : List Byte) {own : OwnFrame} (ho : own.comparison = .opened) :
    LineLaw (lineWithRequest bytes own l) := by
  obtain ⟨-, -, -, -, -, -, -, -, -, -, armed, receiving, holding, unarmed, tick⟩ := h
  unfold lineWithRequest
  constructor <;> grind

/-- The next character begins only where the comparison is OPEN and the echo list has room (R23, R24). -/
theorem LineLaw.sends (h : LineLaw l) (hc : canSendCharacter l = true) (c : Byte) (rest : List Byte) :
    LineLaw { l with transmitter := .sending, bitTimer := 0, sending := some c, toSend := rest,
                     echo := l.echo ++ [{ value := c, elapsed := 0 }] } := by
  obtain ⟨⟨own, ho, opened⟩, room, on⟩ := canSendCharacter_iff.1 hc
  obtain ⟨lde, absent, ended, echo, judged, cut, lead, begun, awaited, sending, armed, receiving, holding, unarmed, tick⟩ := h
  constructor <;> grind

theorem LineLaw.trails (h : LineLaw l) (hc : isLastCharacter l = true) :
    LineLaw (let l' : LineInterface := { l with transmitter := .trailing, bitTimer := 0, sending := none }
      if l'.isOpen then l'.settle else l') := by
  obtain ⟨lde, absent, ended, echo, judged, cut, lead, begun, awaited, sending, armed, receiving, holding, unarmed, tick⟩ := h
  rw [isLastCharacter_iff] at hc
  dsimp only
  unfold LineInterface.isOpen LineInterface.settle LineInterface.judged LineInterface.allEchoed
  constructor <;> grind

/-! ### The end of an own frame (R25 to R27) -/

/-- The Line Interface once an own frame that has ended is absent (R27). -/
def LineInterface.finished (l : LineInterface) : LineInterface :=
  if (endedOwnFrame l).isSome then { l with own := none } else l

theorem finishOwnFrame_lif (s : State) : (finishOwnFrame s).lif = s.lif.finished := by
  unfold finishOwnFrame LineInterface.finished
  split <;> simp_all

theorem finished_eq (l : LineInterface) : l.finished =
    if l.transmitter = .off ∧ ∃ o, l.own = some o ∧ o.comparison ≠ .opened then { l with own := none } else l := by
  unfold LineInterface.finished endedOwnFrame outcomeOf
  rcases ho : l.own with - | o
  · cases l.transmitter <;> simp
  · cases l.transmitter <;> cases hc : o.comparison <;> simp [hc]

theorem LineLaw.releases (h : LineLaw l) (hc : canReleaseLde l = true) :
    LineLaw { l with transmitter := .off, lde := false, bitTimer := 0, sending := none }.finished := by
  obtain ⟨lde, absent, ended, echo, judged, cut, lead, begun, awaited, sending, armed, receiving, holding, unarmed, tick⟩ := h
  rw [canReleaseLde_iff] at hc
  rw [finished_eq]
  split <;> constructor <;> grind

/-- A frame cut while its comparison is OPEN ends at once where LDE is released, in LEAD too (R25 to R27). -/
theorem LineLaw.cuts (h : LineLaw l) {own : OwnFrame} (ho : l.own = some own) (hp : own.comparison = .opened)
    {c : Comparison} (hc : c = .collided ∨ c = .echoLost) : LineLaw (l.cut c).finished := by
  obtain ⟨lde, absent, ended, echo, judged, cut, lead, begun, awaited, sending, armed, receiving, holding, unarmed, tick⟩ := h
  rw [finished_eq]
  unfold LineInterface.cut LineInterface.judged
  split <;> constructor <;> grind

theorem settle_eq {own : OwnFrame} (ho : l.own = some own) : l.settle =
    if l.echo = [] ∧ (l.transmitter = .trailing ∨ l.transmitter = .off) then
      { l with own := some { own with comparison := .settledClean } } else l := by
  unfold LineInterface.settle LineInterface.allEchoed LineInterface.judged
  simp [ho]

/-- The oldest echo is in: the comparison settles with the last one in (R24). -/
theorem LineLaw.echoes (h : LineLaw l) {own : OwnFrame} (ho : l.own = some own) {c : EchoCharacter}
    {rest : List EchoCharacter} (he : l.echo = c :: rest) : LineLaw { l with echo := rest }.settle.finished := by
  obtain ⟨lde, absent, ended, echo, judged, cut, lead, begun, awaited, sending, armed, receiving, holding, unarmed, tick⟩ := h
  rw [settle_eq (l := { l with echo := rest }) ho, finished_eq]
  dsimp only
  split
  · split <;> constructor <;> grind
  · split <;> constructor <;> grind

theorem LineLaw.finished (h : LineLaw l) : LineLaw l.finished := by
  obtain ⟨lde, absent, ended, echo, judged, cut, lead, begun, awaited, sending, armed, receiving, holding, unarmed, tick⟩ := h
  rw [finished_eq]
  split <;> constructor <;> grind

/-! ### Events -/

/-- What the comparison makes of an echo, the end of the frame with it (R24, R25, R27). -/
theorem compareEcho_lineLaw (value : Byte) (stop : Bool) (h : LineLaw s.lif) :
    LineLaw (compareEcho value stop s).lif.finished := by
  unfold compareEcho
  split
  · exact h.finished
  · rename_i own ho
    split
    · rename_i hp
      have struck : LineLaw (s.lif.cut .collided).finished := h.cuts ho hp (.inl rfl)
      split
      · rename_i c rest he
        split
        · exact h.echoes ho he
        · exact struck
      · split
        · exact struck
        · exact struck
        · exact h.finished
        · exact h.finished
    · exact h.finished

theorem lastStopBitEnds_lineLaw (h : LineLaw s.lif) : LineLaw (lastStopBitEnds s).lif := by
  unfold lastStopBitEnds
  split
  · rename_i hc
    exact h.trails hc
  · exact h

theorem runningEvent_lineLaw {i : Instr} {f : State → State} (hf : runningEvent i = some f) (h : LineLaw s.lif) :
    LineLaw (f s).lif := by
  cases i <;> cases hf
  case startBit =>
    unfold startBitBegins
    split
    · exact h.heard (by simp)
    · exact h.heard (by simp)
    · exact h
    · exact h
  case startBitGlitch =>
    unfold startBitRejected
    split
    · exact h.heard (by simp)
    · exact h
  case characterComplete value stop =>
    unfold characterCompletes
    split
    · dsimp only
      rw [finishOwnFrame_lif]
      refine compareEcho_lineLaw value stop ?_
      simp only [receiveCharacter_frame, setLine_lif]
      exact h.heard (by cases stop <;> simp [receiverAfter])
    · exact h
  case holdingRelease =>
    unfold holdingEnds
    split
    · exact h.heard (by simp)
    · exact h
  case receiverArmed =>
    unfold receiverArms
    split
    · exact h.arms
    · exact h
  case ltxStartBit =>
    rcases startBitDue_cases s with ⟨-, e⟩ | ⟨-, e⟩ <;> rw [e]
    · exact lastStopBitEnds_lineLaw h
    · unfold sendCharacter
      split
      · split
        · rename_i hc
          exact h.sends hc _ _
        · exact h
      · exact h
  case lastStopBitEnd => exact lastStopBitEnds_lineLaw h
  case ldeRelease =>
    unfold ldeReleases
    split
    · rename_i hc
      rw [finishOwnFrame_lif]
      exact h.releases hc
    · exact h
  case echoLoss =>
    unfold echoLossFound
    split
    · rename_i hc
      rw [finishOwnFrame_lif]
      simp only [Bool.and_eq_true, LineInterface.isOpen] at hc
      split at hc
      · rename_i own ho
        exact h.cuts ho (of_decide_eq_true hc.1) (.inr rfl)
      · simp at hc
    · exact h
  case tick =>
    rw [(tickEvent_frame s).2.2.2.2.2]
    split
    · exact h.ticks (by decide)
    · exact (h.divisors _ _).ticks (by decide)
  case silenceTimerExpiry => simpa only [silenceExpires_frame] using h
  case pauseTimerExpiry => simpa only [pauseExpires_frame] using h
  case beaconTimerExpiry =>
    unfold beaconTimerEnds
    split <;> simpa using h
  case refreshTimerExpiry =>
    unfold refreshTimerEnds
    split <;> simpa using h
  case deliveryTimerExpiry =>
    unfold deliveryTimerEnds
    split <;> simpa using h

theorem idleEvent_lineLaw {c : ConfigRecord} {i : Instr} {k : Nat} {f : State → State}
    (hf : idleEvent c i = some (k, f)) (h : LineLaw s.lif) : LineLaw (f s).lif := by
  cases i <;> cases hf
  case idleGapLimit => simpa using h
  case replyStart =>
    unfold replyStarts
    split
    · split
      · exact h
      · unfold sendReply
        split
        · exact h.requested _ rfl
        · exact h
    · exact h
  case replyWindowEnd => simpa only [windowEnds_frame] using h
  case slotOpening =>
    unfold ladderAtIdle slotOpens requestFrame
    split
    · split
      · split
        · simpa only [chosenTaken_frame, setLine_lif] using h.requested _ rfl
        · exact h
      · exact h
    · exact h
  case listeningRoundEnd => simpa only [listeningAtIdle_frame] using h

theorem LineLaw.afterReset (divisor : Nat) (lrx : Bool) : LineLaw (LineInterface.afterReset divisor lrx) := by
  constructor <;> cases lrx <;> simp [LineInterface.afterReset]

theorem lineLaw_keptByEvents : KeptByEvents fun s => LineLaw s.lif where
  port s t hs h := by rw [hs]; exact h
  effect c s _ h := by
    obtain ⟨-, -, -, -, -, same | ⟨d, next⟩, -⟩ := effectOf_frame c s
    · rwa [same]
    · rw [next, withNewDivisor_eq]
      split
      · exact h.divisors _ _
      · exact h
  soft lrx s _ := .afterReset _ _
  hard lrx s _ := .afterReset _ _
  bitTime s h := by
    rw [takeBitTime_eq]
    exact (h.divisors _ _).afterBitTime
  event i f s hf h := runningEvent_lineLaw hf h
  idle i k f s hf hk h := by
    refine idleEvent_lineLaw hf ?_
    obtain ⟨-, counts, -, -⟩ := idleReaches_iff.1 hk
    rw [setIdle_eq]
    unfold atIdleTime
    dsimp only
    split
    · exact (h.divisors (atBoundary s).lif.divisor (atBoundary s).lif.startDivisor).idles counts k
    · exact h.idles counts k

/-- Settles O55: the law is the Line Interface's own, and every event of the line keeps it. -/
theorem lineStaysSound : Obligations.LineStaysSound := lineLaw_keptByEvents.step

end Sys2Proof.Machine

/-! PROOFS. The host port (R161 to R167, R182, R183): the law of its transaction. -/

namespace Sys2Proof.Machine

variable {s t : State}

/-! ### The law of the port -/

/-- The law reads the pins and the port, ATTN's level aside. -/
theorem portLaw_congr (h : PortLaw s) (hp : t.pins = s.pins) (hh : t.hpt = { s.hpt with attn := t.hpt.attn }) :
    PortLaw t := by
  have live : portLive t = portLive s := by simp [portLive, running, hp]
  obtain ⟨deselected, unpowered, idle, command, parameters, bits, answering, answer, due⟩ := h
  rw [← live] at deselected unpowered
  rw [← hp] at deselected
  constructor <;> rw [hh] <;> assumption

theorem isTaking_iff {p : PortState} : p.isTaking = true ↔ p = .takingCommand ∨ p = .takingParameters := by
  cases p <;> simp [PortState.isTaking]

/-- Every command is answered with a byte at least (R163). -/
theorem effectOf_answer (c : HostCommand) (s : State) : (effectOf c s).2 ≠ [] := by
  cases c <;> simp only [effectOf, cmdNop, cmdReadStatus, cmdSetField, cmdGetField, cmdJoin, cmdLeave, cmdSoftReset, cmdSubmit,
    cmdCancel, cmdQueryEntry, cmdReadFrame, cmdFlushPool, cmdReadNotice, cmdReadPeer, cmdReadCounters, cmdUnknown]
    <;> (repeat' split) <;> simp [answerOf, doneWith]

/-- A command executes only while the port takes one, with HCS low (R161, R162). -/
theorem PortLaw.executes (h : PortLaw s) (hl : portLive s = true) (ht : s.hpt.port.isTaking = true) (c : HostCommand) :
    PortLaw (executeCommand c (effectOf c) s) := by
  obtain ⟨pins, -, -, -, -, -, -⟩ := effectOf_frame c s
  have live : portLive (executeCommand c (effectOf c) s) = true := by
    simpa [portLive, running, executeCommand, setPort, pins] using hl
  have low : (executeCommand c (effectOf c) s).pins.hcsHigh = false := by
    have := h.deselected hl
    rw [isTaking_iff] at ht
    simp only [executeCommand, setPort, pins]
    grind
  have port : (executeCommand c (effectOf c) s).hpt.port = .answering ∨ (executeCommand c (effectOf c) s).hpt.port = .spent := by
    cases c <;> simp [executeCommand, setPort, portAfter]
  have answer : (executeCommand c (effectOf c) s).hpt.answer ≠ [] := effectOf_answer c s
  have bits : (executeCommand c (effectOf c) s).hpt.bits = [] := rfl
  have out : (executeCommand c (effectOf c) s).hpt.outBits = 0 := rfl
  constructor <;> grind

theorem onPort_portLaw (h : PortLaw s) (c : HostCommand) : PortLaw (onPort c (effectOf c) s) := by
  unfold onPort portTakes
  split
  · rename_i hc
    simp only [Bool.and_eq_true] at hc
    exact h.executes hc.1.1.1 hc.1.1.2 c
  · exact h

/-- A port moved within a transaction keeps the law, if its new state does. -/
theorem PortLaw.moves (h : PortLaw s) (hl : portLive s = true) {p : HostPort}
    (old : s.hpt.port ≠ .deselected) (new : p.port ≠ .deselected ∧ p.port ≠ .waitingDeselect)
    (command : p.port = .takingCommand → p.taken = [] ∧ p.answer = [] ∧ p.outBits = 0)
    (parameters : p.port = .takingParameters →
      p.taken ≠ [] ∧ readCommand p.taken = none ∧ p.answer = [] ∧ p.outBits = 0)
    (bits : p.bits.length < 8) (answering : p.port = .answering → p.answer ≠ [])
    (out : p.outBits < 8 ∧ (p.answer = [] → p.outBits = 0))
    (due : p.softResetDue = true → p.port = .answering ∨ p.port = .spent) : PortLaw (setPort p s) := by
  have port : (setPort p s).hpt = p := rfl
  have live : portLive (setPort p s) = true := hl
  have high : (setPort p s).pins.hcsHigh = s.pins.hcsHigh := rfl
  have deselected := h.deselected
  constructor <;> grind

theorem PortLaw.takesBit (h : PortLaw s) (hl : portLive s = true) (ht : s.hpt.port.isTaking = true) (hdi : Bool) :
    PortLaw (takeBit hdi s) := by
  have taking := isTaking_iff.1 ht
  have notDue : s.hpt.softResetDue = false := by
    have := h.reset_due
    grind
  have nothing : s.hpt.answer = [] ∧ s.hpt.outBits = 0 := by
    have := h.command
    have := h.parameters
    grind
  have command := h.command
  have parameters := h.parameters
  unfold takeBit
  dsimp only
  split
  · exact h.moves hl (by grind) (by grind) command parameters ‹_› (by grind) (by grind) (by grind)
  · split
    · exact h.executes hl ht _
    · rename_i hr
      exact h.moves hl (by grind) (by simp) (by simp) (fun _ => ⟨by simp, hr, nothing⟩) (by simp) (by simp)
        (by simp [nothing]) (by simp [notDue])

theorem HostPort.afterOutBit_eq (p : HostPort) : p.afterOutBit =
    if p.answer = [] then p
    else if p.outBits < 7 then { p with outBits := p.outBits + 1 }
    else { p with answer := p.answer.tail, outBits := 0, port := if p.answer.tail = [] then .spent else p.port } := by
  unfold HostPort.afterOutBit
  rcases p.answer with - | ⟨b, - | ⟨b', rest⟩⟩ <;> simp

theorem PortLaw.answersBit (h : PortLaw s) (hl : portLive s = true) (ht : s.hpt.port = .answering ∨ s.hpt.port = .spent) :
    PortLaw (setPort s.hpt.afterOutBit s) := by
  have bits := h.bits
  have answering := h.answering
  have out := h.answer_bits
  rw [HostPort.afterOutBit_eq]
  split
  · exact h
  · split
    · exact h.moves hl (by grind) (by grind) (by grind) (by grind) bits (by grind) (by grind) (by grind)
    · refine h.moves hl (by grind) ?_ ?_ ?_ bits ?_ (by simp) ?_ <;> grind

theorem clockRise_portLaw (h : PortLaw s) (hl : portLive s = true) (hdi : Bool) : PortLaw (clockRise hdi s) := by
  unfold clockRise
  split
  case h_1 => exact h
  case h_2 hp => exact h.takesBit hl (by rw [hp]; rfl) hdi
  case h_3 hp => exact h.takesBit hl (by rw [hp]; rfl) hdi
  case h_4 hp => exact h.answersBit hl (.inl hp)
  case h_5 hp => exact h.answersBit hl (.inr hp)
  case h_6 => exact h

/-- HDO is no part of the law. -/
theorem portLaw_setHdo (h : PortLaw s) (level : PinLevel) : PortLaw (setHdo level s) := by
  have live : portLive (setHdo level s) = portLive s := rfl
  obtain ⟨deselected, unpowered, idle, command, parameters, bits, answering, answer, due⟩ := h
  rw [← live] at deselected unpowered
  constructor <;> assumption

theorem clockFall_portLaw (h : PortLaw s) : PortLaw (clockFall s) := by
  unfold clockFall
  split
  · exact h
  all_goals exact portLaw_setHdo h _

/-! ### The pins -/

theorem deselect_portLaw (hp : portLive s = true → s.pins.hcsHigh = true) : PortLaw (deselect s) := by
  have live : portLive (deselect s) = portLive s := rfl
  have port : (deselect s).hpt = { s.hpt with
    port := .deselected, taken := [], bits := [], answer := [], outBits := 0, softResetDue := false } := rfl
  have pins : (deselect s).pins.hcsHigh = s.pins.hcsHigh := rfl
  constructor <;> grind

theorem fallHcs_portLaw (h : PortLaw s) (hh : s.pins.hcsHigh = true) : PortLaw (fallHcs s) := by
  obtain ⟨deselected, unpowered, idle, command, parameters, bits, answering, answer, due⟩ := h
  have live : ∀ u : State, u.pins.vddOk = s.pins.vddOk → u.pins.nresetLow = s.pins.nresetLow →
      u.pins.vioOk = s.pins.vioOk → portLive u = portLive s := by
    intro u hv hn hi
    simp [portLive, running, hv, hn, hi]
  unfold fallHcs
  dsimp only
  split
  · rename_i hc
    have live := live (setHdo .high (setPort { s.hpt with port := .takingCommand }
      { s with pins := { s.pins with hcsHigh := false } })) rfl rfl rfl
    simp only [Bool.and_eq_true, decide_eq_true_eq] at hc
    constructor <;> grind [setHdo, setPort]
  · rename_i hc
    have live := live { s with pins := { s.pins with hcsHigh := false } } rfl rfl rfl
    simp only [Bool.and_eq_true, decide_eq_true_eq] at hc
    constructor <;> grind

theorem riseHcs_portLaw (lrx : Bool) (h : PortLaw s) : PortLaw (riseHcs lrx s) := by
  have live : ∀ b, portLive { s with pins := { s.pins with hcsHigh := b } } = portLive s := fun _ => rfl
  unfold riseHcs
  dsimp only
  split
  · refine deselect_portLaw fun _ => ?_
    split <;> rfl
  · rename_i hl
    have live := live true
    obtain ⟨deselected, unpowered, idle, command, parameters, bits, answering, answer, due⟩ := h
    constructor <;> grind

/-- A part out of reset with its port at the reset values (R167). -/
theorem hardReset_portLaw (lrx : Bool) (s : State) : PortLaw (hardReset lrx s) := by
  have port : (hardReset lrx s).hpt = HostPort.afterReset s.pins.hcsHigh := rfl
  have pins : (hardReset lrx s).pins = { s.pins with hdo := .highImpedance } := rfl
  unfold HostPort.afterReset at port
  constructor <;> grind

/-- A part that is not live, and stays so, keeps the law whatever its pins do. -/
theorem portLaw_notLive (h : PortLaw s) (hl : portLive s = false) (pins : Pins)
    (ht : portLive { s with pins := pins } = false) : PortLaw { s with pins := pins } := by
  obtain ⟨deselected, unpowered, idle, command, parameters, bits, answering, answer, due⟩ := h
  constructor <;> grind

theorem portLive_iff : portLive s = true ↔ s.pins.vddOk = true ∧ s.pins.nresetLow = false ∧ s.pins.vioOk = true := by
  simp [portLive, running, and_assoc]

theorem running_iff : running s = true ↔ s.pins.vddOk = true ∧ s.pins.nresetLow = false := by
  simp [running]

theorem portLive_eq_false_of_not_running (h : running s = false) : portLive s = false := by
  simp [portLive, h]

theorem vioFalls_portLaw (lrx : Bool) (h : PortLaw s) : PortLaw (vioFalls lrx s) := by
  unfold vioFalls
  split
  · split
    · have port : (setVio false (endTransaction lrx s)).hpt.port = .deselected := rfl
      have empty : (setVio false (endTransaction lrx s)).hpt.taken = [] ∧
        (setVio false (endTransaction lrx s)).hpt.bits = [] ∧ (setVio false (endTransaction lrx s)).hpt.answer = [] ∧
        (setVio false (endTransaction lrx s)).hpt.outBits = 0 ∧
        (setVio false (endTransaction lrx s)).hpt.softResetDue = false := ⟨rfl, rfl, rfl, rfl, rfl⟩
      have live : portLive (setVio false (endTransaction lrx s)) = false := by simp [portLive, setVio]
      constructor <;> grind
    · rename_i hr
      refine portLaw_notLive h (portLive_eq_false_of_not_running (by simpa using hr)) _ ?_
      simp [portLive]
  · exact h

theorem vioReturns_portLaw (h : PortLaw s) : PortLaw (vioReturns s) := by
  unfold vioReturns
  dsimp only
  split
  · exact h
  · rename_i hv
    have off : portLive s = false := by simp [portLive, hv]
    split
    · obtain ⟨-, unpowered, idle, -, -, -, -, -, due⟩ := h
      have before := unpowered off
      obtain ⟨taken, bits, answer, out⟩ := idle before
      have due' : s.hpt.softResetDue = false := by grind
      constructor <;> grind [setPort, setVio]
    · rename_i hr
      have held : running s = false := by simpa using hr
      exact portLaw_notLive h off _ (portLive_eq_false_of_not_running held)

theorem intoReset_portLaw {pins : Pins} (h : PortLaw s) (hr : running { s with pins := pins } = false) :
    PortLaw (intoReset s { s with pins := pins }) := by
  unfold intoReset
  split
  · exact hardReset_portLaw _ _
  · rename_i h'
    exact portLaw_notLive h (portLive_eq_false_of_not_running (by simpa using h')) _
      (portLive_eq_false_of_not_running hr)

theorem outOfReset_portLaw {pins : Pins} (lrx : Bool) (h : PortLaw s) (hr : running s = false) :
    PortLaw (outOfReset lrx { s with pins := pins }) := by
  unfold outOfReset
  split
  · exact hardReset_portLaw _ _
  · rename_i h'
    exact portLaw_notLive h (portLive_eq_false_of_not_running hr) _
      (portLive_eq_false_of_not_running (by simpa using h'))

/-- The events on the pins keep the port's law. -/
theorem pinEvent_portLaw {i : Instr} {f : State → State} (hf : pinEvent i = some f) (h : PortLaw s) : PortLaw (f s) := by
  cases i <;> cases hf
  case hcsFall =>
    dsimp only
    split
    · exact fallHcs_portLaw h ‹_›
    · exact h
  case hcsRise lrx =>
    dsimp only
    split
    · exact h
    · exact riseHcs_portLaw lrx h
  case hckEdge rising hdi =>
    dsimp only
    split
    · split
      · exact clockRise_portLaw h ‹_› hdi
      · exact clockFall_portLaw h
    · exact h
  case hardwareReset =>
    unfold nresetFalls
    split
    · exact h
    · exact intoReset_portLaw h (by simp [running])
  case nresetRelease lrx =>
    unfold nresetRises
    split
    · exact outOfReset_portLaw lrx h (by simp [running, *])
    · exact h
  case vddOutOfRange =>
    unfold vddFalls
    split
    · exact intoReset_portLaw h (by simp [running])
    · exact h
  case vddReturn lrx =>
    unfold vddReturns
    split
    · exact h
    · exact outOfReset_portLaw lrx h (by simp [running, *])
  case vioFall lrx => exact vioFalls_portLaw lrx h
  case vioReturn => exact vioReturns_portLaw h

/-- Settles O57: the events of the line and the timers leave the port alone, host commands execute while one is taken, and the
pins move it. -/
theorem portStaysSound : Obligations.PortStaysSound := by
  intro s t h ht
  have settle : ∀ u : State, PortLaw u → PortLaw (settleAttn u) := fun u hu => portLaw_congr hu rfl rfl
  have same : ∀ u : State, u.pins = s.pins → u.hpt = s.hpt → PortLaw u := fun u hp hh =>
    portLaw_congr h hp (by rw [hh])
  rcases step_cases ht with ⟨i, rest, -, hi⟩ | ⟨-, rfl⟩
  · have front := same { s with pending := rest } rfl rfl
    generalize { s with pending := rest } = u at hi front
    rcases instr_kinds u.stc.config i with ⟨c, hc⟩ | ⟨f, hf⟩ | ⟨⟨n, f⟩, hf⟩ | ⟨f, hf⟩
    · rw [exec_hostCommand hc] at hi
      cases hi
      exact settle _ (onPort_portLaw front c)
    · rw [exec_running hf] at hi
      cases hi
      unfold whenRunning
      split
      · obtain ⟨pins, port, -, -⟩ := runningEvent_frame hf u
        exact settle _ (portLaw_congr front pins (by rw [port]))
      · exact settle _ front
    · rw [exec_idle hf] at hi
      cases hi
      unfold atIdle
      split
      · obtain ⟨pins, port, -⟩ := idleEvent_frame hf (setIdle n u)
        exact settle _ (portLaw_congr front (by simpa using pins) (by rw [port]; simp))
      · exact settle _ front
    · rw [exec_pin hf] at hi
      cases hi
      exact settle _ (pinEvent_portLaw hf front)
  · unfold idleStep whenRunning bitTimePasses
    dsimp only
    rw [freeOrder_state]
    split
    · exact same _ (by simp) (by simp)
    · exact h

end Sys2Proof.Machine

/-! PROOFS. The step and the host port (R161 to R167, R182 to R184): commands complete, what each edge of HCS and HCK does, and
the resets. -/

namespace Sys2Proof.Machine

variable {s t : State}

/-! ### The step and every command -/

/-- Settles O1, by the step's definition. -/
theorem stepTakesFrontCommand : Obligations.StepTakesFrontCommand := fun _ _ _ => rfl

theorem executeCommand_pending (c : HostCommand) (s : State) :
    (executeCommand c (effectOf c) s).pending = s.pending := by
  obtain ⟨-, -, -, -, pending, -, -⟩ := effectOf_frame c s
  exact pending

theorem onPort_pending (c : HostCommand) (s : State) : (onPort c (effectOf c) s).pending = s.pending := by
  unfold onPort
  split
  · exact executeCommand_pending c s
  · rfl

theorem clockRise_pending (hdi : Bool) (s : State) : (clockRise hdi s).pending = s.pending := by
  have taken : (takeBit hdi s).pending = s.pending := by
    unfold takeBit
    dsimp only
    split
    · rfl
    · split
      · exact executeCommand_pending _ s
      · rfl
  unfold clockRise
  split
  case h_2 => exact taken
  case h_3 => exact taken
  all_goals rfl

theorem endTransaction_pending (lrx : Bool) (s : State) : (endTransaction lrx s).pending = s.pending := by
  unfold endTransaction
  split <;> rfl

/-- The events on the pins leave the waiting commands as they are. -/
theorem pinEvent_pending {i : Instr} {f : State → State} (hf : pinEvent i = some f) (s : State) :
    (f s).pending = s.pending := by
  cases i <;> cases hf
  case hcsFall =>
    dsimp only [fallHcs]
    split_ifs <;> rfl
  case hcsRise lrx =>
    dsimp only [riseHcs]
    split_ifs
    · rfl
    · exact endTransaction_pending lrx _
    · rfl
  case hckEdge rising hdi =>
    dsimp only
    split_ifs
    · exact clockRise_pending hdi s
    · unfold clockFall
      split <;> rfl
    · rfl
  case hardwareReset =>
    unfold nresetFalls intoReset
    split_ifs <;> rfl
  case nresetRelease lrx =>
    unfold nresetRises outOfReset
    split_ifs <;> rfl
  case vddOutOfRange =>
    unfold vddFalls intoReset
    split_ifs <;> rfl
  case vddReturn lrx =>
    unfold vddReturns outOfReset
    split_ifs <;> rfl
  case vioFall lrx =>
    unfold vioFalls
    split_ifs
    · exact endTransaction_pending lrx s
    · rfl
    · rfl
  case vioReturn =>
    unfold vioReturns
    dsimp only
    split_ifs <;> rfl

/-- Settles O3: every command answers the state that its event leaves, with ATTN settled last. -/
theorem everyCommandCompletesWithAttnSettled : Obligations.EveryCommandCompletesWithAttnSettled := by
  intro i s
  rcases instr_kinds s.stc.config i with ⟨c, hc⟩ | ⟨f, hf⟩ | ⟨⟨k, f⟩, hf⟩ | ⟨f, hf⟩
  · exact ⟨_, exec_hostCommand hc s, onPort_pending c s, settleAttn_law _⟩
  · refine ⟨_, exec_running hf s, ?_, settleAttn_law _⟩
    have event := (runningEvent_frame hf s).2.2.1
    by_cases hr : running s = true <;> simp [settleAttn, whenRunning, hr, event]
  · refine ⟨_, exec_idle hf, ?_, settleAttn_law _⟩
    have event := (idleEvent_frame hf (setIdle k s)).2.2
    by_cases hk : idleReaches k s = true <;> simp [settleAttn, atIdle, hk, event]
  · exact ⟨_, exec_pin hf s, pinEvent_pending hf s, settleAttn_law _⟩

/-- Settles O5: a row of a host command acts only where the port takes its bits. -/
theorem commandNotTakenChangesNothing : Obligations.CommandNotTakenChangesNothing := by
  intro i c s hi hp
  rw [exec_hostCommand hi, onPort, hp]
  rfl

/-! ### The edges of HCK and HCS (R161, R163, R164, R166, R167) -/

theorem exec_hckEdge_rise {hdi : Bool} (h : portLive s = true) :
    exec (.hckEdge true hdi) s = .next (settleAttn (clockRise hdi s)) := by
  simp [exec_pin (i := .hckEdge true hdi) rfl, h]

theorem exec_hckEdge_fall {hdi : Bool} (h : portLive s = true) :
    exec (.hckEdge false hdi) s = .next (settleAttn (clockFall s)) := by
  simp [exec_pin (i := .hckEdge false hdi) rfl, h]

theorem clockRise_taking (h : s.hpt.port = .takingCommand ∨ s.hpt.port = .takingParameters) (hdi : Bool) :
    clockRise hdi s = takeBit hdi s := by
  unfold clockRise
  rcases h with h | h <;> rw [h]

theorem clockRise_answering (h : s.hpt.port = .answering ∨ s.hpt.port = .spent) (hdi : Bool) :
    clockRise hdi s = setPort s.hpt.afterOutBit s := by
  unfold clockRise
  rcases h with h | h <;> rw [h]

theorem clockFall_taking (h : s.hpt.port = .takingCommand ∨ s.hpt.port = .takingParameters) :
    clockFall s = setHdo .high s := by
  unfold clockFall
  rcases h with h | h <;> rw [h]

theorem clockFall_answering (h : s.hpt.port = .answering ∨ s.hpt.port = .spent) :
    clockFall s = setHdo (if s.hpt.outBit then .high else .low) s := by
  unfold clockFall
  rcases h with h | h <;> rw [h]

theorem takeBit_bit {hdi : Bool} (h : s.hpt.bits.length < 7) :
    takeBit hdi s = setPort { s.hpt with bits := s.hpt.bits ++ [hdi] } s := by
  unfold takeBit
  dsimp only
  rw [if_pos (by simp; omega)]

theorem takeBit_byte {hdi : Bool} {byte : Byte} (h : s.hpt.bits.length = 7)
    (hb : byte = byteOf (numberOfBits (s.hpt.bits ++ [hdi]))) (hr : readCommand (s.hpt.taken ++ [byte]) = none) :
    takeBit hdi s = setPort { s.hpt with port := .takingParameters, taken := s.hpt.taken ++ [byte], bits := [] } s := by
  subst hb
  unfold takeBit
  dsimp only
  rw [if_neg (by simp; omega), hr]

theorem takeBit_command {hdi : Bool} {c : HostCommand} (h : s.hpt.bits.length = 7)
    (hr : readCommand (s.hpt.taken ++ [byteOf (numberOfBits (s.hpt.bits ++ [hdi]))]) = some c) :
    takeBit hdi s = executeCommand c (effectOf c) s := by
  unfold takeBit
  dsimp only
  rw [if_neg (by simp; omega), hr]

/-- Settles O8, by the port's transaction state. -/
theorem hckEdgesClockThePort : Obligations.HckEdgesClockThePort := by
  intro s hdi
  refine ⟨fun h rising => ?ignored, fun hl ht => ⟨fun hb => ?bit, fun byte hb he hr => ?byte, ?takingFall⟩,
    fun hl ha => ⟨fun he => ⟨?spentRise, ?spentFall⟩, fun b rest he => ⟨?bitFall, fun ho => ?bitRise, fun ho => ?byteRise⟩⟩⟩
  case ignored =>
    rw [exec_pin (i := .hckEdge rising hdi) rfl]
    rcases h with h | h | h <;> cases rising <;> simp [h, clockRise, clockFall]
  case bit =>
    rw [exec_hckEdge_rise hl, clockRise_taking ht, takeBit_bit hb]
    rfl
  case byte =>
    rw [exec_hckEdge_rise hl, clockRise_taking ht, takeBit_byte hb he hr]
    rfl
  case takingFall =>
    rw [exec_hckEdge_fall hl, clockFall_taking ht]
    rfl
  case spentRise => rw [exec_hckEdge_rise hl, clockRise_answering ha, HostPort.afterOutBit_eq, if_pos he]; rfl
  case spentFall =>
    rw [exec_hckEdge_fall hl, clockFall_answering ha, HostPort.outBit, he]
    rfl
  case bitFall =>
    rw [exec_hckEdge_fall hl, clockFall_answering ha, HostPort.outBit, he]
    rfl
  case bitRise =>
    rw [exec_hckEdge_rise hl, clockRise_answering ha, HostPort.afterOutBit_eq, if_neg (by simp [he]), if_pos ho]
    rfl
  case byteRise =>
    rw [exec_hckEdge_rise hl, clockRise_answering ha, HostPort.afterOutBit_eq, if_neg (by simp [he]),
      if_neg (by omega), he]
    rfl

/-- Settles O9, by the port's state at each edge. -/
theorem hcsEdgesBeginAndEndTransactions : Obligations.HcsEdgesBeginAndEndTransactions := by
  intro s
  refine ⟨fun hh hl hd => ?begins, fun hh hn => ?level, fun hh => ?noFall, fun lrx hh hl hd => ?ends, fun lrx hh hl => ?levelOnly,
    fun lrx hh => ?noRise⟩
  case begins => simp [exec_pin (i := .hcsFall) rfl, hh, fallHcs, hl, hd, setHdo, setPort]
  case level =>
    have kept : (portLive s && decide (s.hpt.port = .deselected)) = false := by
      rcases hn with hn | hn <;> simp [hn]
    simp [exec_pin (i := .hcsFall) rfl, hh, fallHcs, kept]
  case noFall => simp [exec_pin (i := .hcsFall) rfl, hh]
  case ends => simp [exec_pin (i := .hcsRise lrx) rfl, hh, riseHcs, hl, endTransaction, hd, deselect, setHdo, setPort]
  case levelOnly => simp [exec_pin (i := .hcsRise lrx) rfl, hh, riseHcs, hl]
  case noRise => simp [exec_pin (i := .hcsRise lrx) rfl, hh]

/-! ### The resets (R160, R166, R182, R183) -/

theorem lrxNow_eq (lrx : Bool) (s : State) : lrxNow s lrx =
    if s.lif.receiver = .armed ∨ s.lif.receiver = .unarmed true then true
    else if s.lif.receiver = .holding then false else lrx := by
  unfold lrxNow
  rcases s.lif.receiver with b | _ | _ | _
  · cases b <;> simp
  all_goals simp

/-- The end of a transaction in which SOFT RESET was executed (R166). -/
theorem endTransaction_softReset (lrx : Bool) (h : s.hpt.softResetDue = true) :
    settleAttn (endTransaction lrx s) = settleAttn (afterSoftReset lrx s) := by
  unfold endTransaction softReset
  rw [if_pos h, lrxNow_eq]
  rfl

theorem endTransaction_plain (lrx : Bool) (h : s.hpt.softResetDue = false) : endTransaction lrx s = deselect s := by
  unfold endTransaction
  rw [if_neg (by simp [h])]

theorem exec_softReset_answers (h : portTakes .softReset s = true) : exec .softReset s =
    .next (settleAttn (answered .softReset [0x00] { s with hpt := { s.hpt with softResetDue := true } })) :=
  next_onPort_answers h rfl rfl

/-- Settles O10: the command marks the port, and the transaction's end resets. -/
theorem softResetTakesEffectAtHcsRise : Obligations.SoftResetTakesEffectAtHcsRise := by
  refine fun s => ⟨exec_softReset_answers, fun lrx hh hl hd => ?_⟩
  have ends := endTransaction_softReset lrx (s := { s with pins := { s.pins with hcsHigh := true } }) hd
  simp only [exec_pin (i := .hcsRise lrx) rfl, hh, riseHcs, hl, if_true, Bool.false_eq_true, if_false, ends]

/-- After a hardware reset no cause of ATTN holds. -/
theorem settleAttn_hardReset (lrx : Bool) (s : State) : settleAttn (hardReset lrx s) = afterHardReset lrx s := by
  have level : attnLevel (hardReset lrx s) = false := by
    simp [attnLevel, AttnFlags.meets, attnCauses, hardReset, resetBlocks, ReceivePool.afterReset, ConfigRecord.defaults]
  unfold settleAttn
  rw [level]
  rfl

theorem exec_hardwareReset_running (h : running s = true) : exec .hardwareReset s =
    .next (afterHardReset false { s with pins := { s.pins with nresetLow := true } }) := by
  have high := (running_iff.1 h).2
  rw [← settleAttn_hardReset, exec_pin (i := .hardwareReset) rfl, nresetFalls, high]
  simp only [Bool.false_eq_true, if_false, intoReset, h, if_true]
  rfl

theorem exec_vddOutOfRange_running (h : running s = true) : exec .vddOutOfRange s =
    .next (afterHardReset false { s with pins := { s.pins with vddOk := false } }) := by
  have powered := (running_iff.1 h).1
  rw [← settleAttn_hardReset, exec_pin (i := .vddOutOfRange) rfl, vddFalls, powered]
  simp only [if_true, intoReset, h]
  rfl

/-- Settles O22, by the levels of NRESET and VDD. -/
theorem hardwareResetAndRelease : Obligations.HardwareResetAndRelease := by
  intro s lrx
  refine ⟨fun h => ⟨exec_hardwareReset_running h, exec_vddOutOfRange_running h⟩, fun h t => ⟨fun ht => ?reset, fun ht => ?power⟩,
    fun hn hv => ?_, fun hn hv => ⟨?_, ?release⟩, fun hn hv => ⟨?_, ?_⟩, fun hn hv => ?powerRelease, fun hn => ?_, fun hn => ?_,
    fun hv => ?_, fun hv => ?_⟩
  case reset =>
    have powered := (running_iff.1 h).1
    rw [exec_hardwareReset_running h] at ht
    cases ht
    simp [ldePin, ltxPin, hdoPin, attnPin, afterHardReset, portLive, running, powered]
  case power =>
    rw [exec_vddOutOfRange_running h] at ht
    cases ht
    simp [ldePin, ltxPin, hdoPin, attnPin, afterHardReset, portLive, running]
  case release =>
    rw [← settleAttn_hardReset, exec_pin (i := .nresetRelease lrx) rfl]
    simp [nresetRises, hn, setNreset, outOfReset, running, hv, releaseReset]
  case powerRelease =>
    rw [← settleAttn_hardReset, exec_pin (i := .vddReturn lrx) rfl]
    simp [vddReturns, hv, setVdd, outOfReset, running, hn, releaseReset]
  · simp [exec_pin (i := .hardwareReset) rfl, nresetFalls, hn, intoReset, running, hv, setNreset]
  · simp [exec_pin (i := .vddOutOfRange) rfl, vddFalls, hv, intoReset, running, hn, setVdd]
  · simp [exec_pin (i := .nresetRelease lrx) rfl, nresetRises, hn, outOfReset, running, hv, setNreset]
  · simp [exec_pin (i := .vddReturn lrx) rfl, vddReturns, hv, outOfReset, running, hn, setVdd]
  · simp [exec_pin (i := .hardwareReset) rfl, nresetFalls, hn]
  · simp [exec_pin (i := .nresetRelease lrx) rfl, nresetRises, hn]
  · simp [exec_pin (i := .vddOutOfRange) rfl, vddFalls, hv]
  · simp [exec_pin (i := .vddReturn lrx) rfl, vddReturns, hv]

/-- Settles O23, by whether the part runs and a soft reset is due. -/
theorem vioEndsTheTransaction : Obligations.VioEndsTheTransaction := by
  intro s lrx
  refine ⟨fun hv hr hd => ?plain, fun hv hr hd => ?soft, fun hv hr => ?_, fun hv hr => ?_, fun hv hr => ?_, fun hv => ?_,
    fun hv => ?_⟩
  case plain =>
    rw [exec_pin (i := .vioFall lrx) rfl, vioFalls, if_pos hv, if_pos hr, endTransaction_plain lrx hd]
    simp [setVio, deselect, setHdo, setPort, hd]
  case soft =>
    rw [exec_pin (i := .vioFall lrx) rfl, vioFalls, if_pos hv, if_pos hr]
    unfold endTransaction softReset
    rw [if_pos hd, lrxNow_eq]
    rfl
  · simp [exec_pin (i := .vioFall lrx) rfl, vioFalls, hv, hr, setVio]
  · have runs : running (setVio true s) = true := hr
    simp [exec_pin (i := .vioReturn) rfl, vioReturns, hv, hr, setVio, setPort]
  · simp [exec_pin (i := .vioReturn) rfl, vioReturns, hv, hr, setVio]
  · simp [exec_pin (i := .vioFall lrx) rfl, vioFalls, hv]
  · simp [exec_pin (i := .vioReturn) rfl, vioReturns, hv]

/-- Settles O12: an unknown command is answered in SPENT. -/
theorem unknownCommandIsSpent : Obligations.UnknownCommandIsSpent := by
  intro s code hp
  rw [exec_hostCommand (i := .unknownCommand code) rfl, onPort_taken hp]
  rfl

end Sys2Proof.Machine

/-! PROOFS. The bytes of host commands (R162, R165): read back, and clocked in bit by bit. -/

namespace Sys2Proof.Machine

variable {s t : State}

/-! ### Reading a command's bytes (R162, R165, R179) -/

theorem commandBytes_ne_nil (c : HostCommand) : commandBytes c ≠ [] := by cases c <;> simp [commandBytes]

theorem readCommand_commandBytes {c : HostCommand} (h : c.wellFormed = true) : readCommand (commandBytes c) = some c := by
  cases c
  case setField id value =>
    have count : value.length = valueBytes id := of_decide_eq_true h
    simp [commandBytes, readCommand, count]
  case submit dest length payload =>
    have count : payload.length = payloadBytes length := of_decide_eq_true h
    simp [commandBytes, readCommand, count]
  case unknown code =>
    have other : isCommandCode code = false := by simpa [HostCommand.wellFormed] using h
    unfold commandBytes readCommand
    split <;> simp_all [isCommandCode]
  all_goals rfl

/-- Only the bytes of a command are read as it. -/
theorem readCommand_eq_some {bytes : List Byte} {c : HostCommand} (h : readCommand bytes = some c) :
    bytes = commandBytes c := by
  unfold readCommand at h
  split at h
  · cases h
  · split at h <;> (try split at h) <;> cases h <;> simp_all [commandBytes, BitVec.toNat_eq]

/-- A beginning of a command's bytes that is not all of them is no command yet. -/
theorem readCommand_take {c : HostCommand} (h : c.wellFormed = true) {n : Nat} (hn : n < (commandBytes c).length) :
    readCommand ((commandBytes c).take n) = none := by
  match n with
  | 0 => rfl
  | 1 => cases c <;> simp [commandBytes] at hn <;> rfl
  | n + 2 =>
    cases c
    case setField id value =>
      have count : value.length = valueBytes id := of_decide_eq_true h
      have short : (value.take n).length ≠ valueBytes id := by
        simp [commandBytes] at hn
        simp
        omega
      simpa [commandBytes, readCommand] using short
    case submit dest length payload =>
      have count : payload.length = payloadBytes length := of_decide_eq_true h
      match n with
      | 0 => rfl
      | n + 1 =>
        have short : (payload.take n).length ≠ payloadBytes length := by
          simp [commandBytes] at hn
          simp
          omega
        simpa [commandBytes, readCommand] using short
    all_goals simp [commandBytes] at hn

/-- Settles O6. -/
theorem commandBytesReadBack : Obligations.CommandBytesReadBack :=
  ⟨fun _ h => ⟨readCommand_commandBytes h, fun _ hn => readCommand_take h hn, fun _ hb => readCommand_eq_some hb⟩,
    fun _ _ _ => ⟨rfl, rfl, rfl, rfl, rfl, rfl, rfl, rfl, rfl, rfl, rfl, rfl, rfl, rfl, rfl, rfl⟩⟩

/-! ### Bytes and their bits (R161) -/

theorem msbFirst_length (b : Byte) : (msbFirst b).length = 8 := rfl

/-- Eight bits taken most significant first make the byte that has them. -/
theorem msbFirst_byteOf (bits : List Bool) (h : bits.length = 8) : msbFirst (byteOf (numberOfBits bits)) = bits := by
  have each : ∀ a b c d e f g h : Bool,
      msbFirst (byteOf (numberOfBits [a, b, c, d, e, f, g, h])) = [a, b, c, d, e, f, g, h] := by decide
  match bits, h with
  | [a, b, c, d, e, f, g, h], _ => exact each a b c d e f g h

theorem msbFirst_injective {a b : Byte} (h : msbFirst a = msbFirst b) : a = b := by
  simp only [msbFirst, List.cons.injEq, and_true] at h
  obtain ⟨h7, h6, h5, h4, h3, h2, h1, h0⟩ := h
  refine BitVec.eq_of_getLsbD_eq fun i hi => ?_
  interval_cases i <;> assumption

theorem bitsOfBytes_append (xs ys : List Byte) : bitsOfBytes (xs ++ ys) = bitsOfBytes xs ++ bitsOfBytes ys := by
  simp [bitsOfBytes]

/-- Bytes whose bits begin with those of others begin with those bytes. -/
theorem bitsOfBytes_eq_append {rest : List Bool} : ∀ {xs ys : List Byte}, bitsOfBytes ys = bitsOfBytes xs ++ rest →
    ∃ zs, ys = xs ++ zs ∧ bitsOfBytes zs = rest
  | [], ys, h => ⟨ys, rfl, by simpa [bitsOfBytes] using h⟩
  | x :: xs, [], h => by simp [bitsOfBytes, msbFirst] at h
  | x :: xs, y :: ys, h => by
    have parts : msbFirst y ++ bitsOfBytes ys = msbFirst x ++ (bitsOfBytes xs ++ rest) := by
      simpa [bitsOfBytes] using h
    obtain ⟨first, others⟩ := List.append_inj parts rfl
    obtain ⟨zs, rfl, hz⟩ := bitsOfBytes_eq_append others
    refine ⟨zs, ?_, hz⟩
    rw [msbFirst_injective first, List.cons_append]

/-! ### A command's effect and the port (R162) -/

@[simp] theorem setPort_frame (p : HostPort) (s : State) :
      (setPort p s).pins = s.pins ∧ (setPort p s).lif = s.lif ∧ (setPort p s).frx = s.frx ∧
      (setPort p s).lastSender = s.lastSender ∧ (setPort p s).txq = s.txq ∧ (setPort p s).rpu = s.rpu ∧
      (setPort p s).ptb = s.ptb ∧ (setPort p s).rxp = s.rxp ∧ (setPort p s).cgm = s.cgm ∧
      (setPort p s).stc = s.stc ∧ (setPort p s).notices = s.notices ∧ (setPort p s).counters = s.counters ∧
      (setPort p s).choices = s.choices ∧ (setPort p s).pending = s.pending ∧ (setPort p s).hpt = p := by
  simp [setPort]

theorem offerNotice_setPort (n : Notice) (p : HostPort) (s : State) :
    offerNotice n (setPort p s) = setPort p (offerNotice n s) := by
  unfold offerNotice
  simp only [setPort_frame]
  split_ifs <;> rfl

theorem judgeFill_setPort (p : HostPort) (s : State) : judgeFill (setPort p s) = setPort p (judgeFill s) := by
  unfold judgeFill
  simp only [setPort_frame]
  split_ifs
  · exact offerNotice_setPort _ p (setMonitor (monitorRelief (isActive s) s.cgm) s)
  · rfl
  · exact offerNotice_setPort _ p (setMonitor (monitorOnset (isActive s) (refreshLoad s.stc.config) s.cgm) s)
  · rfl

theorem withdrawEntry_setPort (p : HostPort) (s : State) (h : Fin 16) :
    withdrawEntry (setPort p s) h = setPort p (withdrawEntry s h) := by
  unfold withdrawEntry
  simp only [setPort_frame]
  cases s.txq.entries[h] with
  | none => rfl
  | some e =>
    dsimp only
    split_ifs
    · exact offerNotice_setPort _ p (setEntry h (some { e with state := .complete .failedWithdrawn }) s)
    · rfl

theorem withdrawAll_setPort (p : HostPort) (s : State) : withdrawAll (setPort p s) = setPort p (withdrawAll s) := by
  have fold : ∀ (hs : List (Fin 16)) (u : State),
      hs.foldl withdrawEntry (setPort p u) = setPort p (hs.foldl withdrawEntry u) := by
    intro hs
    induction hs with
    | nil => exact fun u => rfl
    | cons h hs ih => exact fun u => by simp only [List.foldl_cons, withdrawEntry_setPort, ih]
  exact fold _ s

theorem leaveStation_setPort (p : HostPort) (s : State) : leaveStation (setPort p s) = setPort p (leaveStation s) := by
  unfold leaveStation
  rw [withdrawAll_setPort]
  generalize withdrawAll s = u
  have queue : (monitorWithdraw (setPort p u)).txq = (monitorWithdraw u).txq := rfl
  dsimp only
  rw [queue]
  split_ifs
  · rfl
  · exact offerNotice_setPort _ p
      (setBeacon .none (clearTable (setLastSender none (setStation .unjoined none (monitorWithdraw u)))))

theorem joinStation_setPort (p : HostPort) (s : State) : joinStation (setPort p s) = setPort p (joinStation s) :=
  judgeFill_setPort p (setMonitor { s.cgm with highMark := s.stc.config.highMark, lowMark := s.stc.config.lowMark }
    (setLastSender none (setStation .listening (some (listeningRound s.stc.config)) s)))

theorem freeEntry_setPort (n : Notice) (p : HostPort) (s : State) : freeEntry n (setPort p s) = setPort p (freeEntry n s) := by
  unfold freeEntry
  split_ifs
  · cases handleOf n.subject <;> rfl
  · rfl

/-- A command's effect does not depend on where the transaction stands: of the port it reads ATTN's level alone, and sets the
soft reset's due alone. -/
theorem effectOf_setPort (c : HostCommand) {p : HostPort} {s : State} (ha : p.attn = s.hpt.attn) :
    effectOf c (setPort p s) =
      (setPort { p with softResetDue := p.softResetDue || decide (c = .softReset) } (effectOf c s).1, (effectOf c s).2) := by
  cases c
  case readStatus =>
    have same : statusBytes (setPort p s) = statusBytes s := by
      simp only [statusBytes, setPort_frame, ha]
      rfl
    simp [effectOf, cmdReadStatus, same]
  case softReset => simp [effectOf, cmdSoftReset, setPort]
  case setField id v =>
    simp only [effectOf, cmdSetField, setPort_frame, reduceCtorEq, decide_false, Bool.or_false]
    split_ifs
    · cases fieldOfId id with
      | none => rfl
      | some f =>
        dsimp only
        cases writeField s.stc.config f v with
        | none => rfl
        | some r => cases f <;> rfl
    · rfl
  case join =>
    simp only [effectOf, cmdJoin, setPort_frame, reduceCtorEq, decide_false, Bool.or_false]
    split_ifs
    · cases joinFault s.stc.config with
      | none => exact congrArg (·, answerOf .done) (joinStation_setPort p s)
      | some id => rfl
    · rfl
  case leave =>
    simp only [effectOf, cmdLeave, setPort_frame, leaveStation_setPort, reduceCtorEq, decide_false, Bool.or_false]
    cases s.stc.station <;> rfl
  case submit dest length payload =>
    have accepts : acceptsSubmit (setPort p s) = acceptsSubmit s := rfl
    have bad : badSubmit (setPort p s) dest length = badSubmit s dest length := rfl
    simp only [effectOf, cmdSubmit, setPort_frame, accepts, bad, reduceCtorEq, decide_false, Bool.or_false]
    split_ifs
    · rfl
    · cases lowestFree s.txq <;> rfl
    · rfl
  case cancel b =>
    simp only [effectOf, cmdCancel, setPort_frame, reduceCtorEq, decide_false, Bool.or_false]
    cases handleOf b with
    | none => rfl
    | some h =>
      dsimp only
      cases s.txq.entries[h] with
      | none => rfl
      | some e =>
        dsimp only
        split_ifs <;> rfl
  case readFrame =>
    simp only [effectOf, cmdReadFrame, setPort_frame, reduceCtorEq, decide_false, Bool.or_false]
    cases s.rxp.urgent with
    | cons r rest => exact congrArg (·, doneWith (recordBytes true r)) (judgeFill_setPort p (setPool (poolWithoutUrgent r rest s.rxp) s))
    | nil =>
      cases s.rxp.normal with
      | cons r rest =>
        exact congrArg (·, doneWith (recordBytes false r))
          (judgeFill_setPort p (setPool (poolWithoutNormal s.stc.config r rest s.rxp) s))
      | nil => rfl
  case flushPool =>
    simp only [effectOf, cmdFlushPool, setPort_frame, reduceCtorEq, decide_false, Bool.or_false]
    split_ifs
    · rfl
    · exact congrArg (·, doneWith [byteOf (recordCount s.rxp)]) (judgeFill_setPort p (setPool ReceivePool.afterReset s))
  case readNotice =>
    simp only [effectOf, cmdReadNotice, setPort_frame, reduceCtorEq, decide_false, Bool.or_false]
    cases s.notices with
    | nil => rfl
    | cons n rest => exact congrArg (·, doneWith (noticeBytes n)) (freeEntry_setPort n p { s with notices := rest })
  case getField id =>
    simp only [effectOf, cmdGetField, setPort_frame, reduceCtorEq, decide_false, Bool.or_false]
    cases fieldOfId id <;> rfl
  case queryEntry b =>
    simp only [effectOf, cmdQueryEntry, setPort_frame, reduceCtorEq, decide_false, Bool.or_false]
    cases handleOf b with
    | none => rfl
    | some h =>
      dsimp only
      cases s.txq.entries[h] <;> rfl
  case readPeer b =>
    simp only [effectOf, cmdReadPeer, setPort_frame, reduceCtorEq, decide_false, Bool.or_false]
    cases recordOf b <;> rfl
  all_goals simp [effectOf, cmdNop, cmdReadCounters, cmdUnknown, setPort]

/-- A command executes the same wherever its transaction stands. -/
theorem executeCommand_setPort (c : HostCommand) {p : HostPort} {s : State} (ha : p.attn = s.hpt.attn)
    (hd : p.softResetDue = s.hpt.softResetDue) :
    executeCommand c (effectOf c) (setPort p s) = executeCommand c (effectOf c) s := by
  obtain ⟨-, -, -, -, -, -, port⟩ := effectOf_frame c s
  unfold executeCommand
  simp only [effectOf_setPort c ha, port]
  simp [setPort, ha, hd]

/-! ### Clocking a command in (R161, R162) -/

/-- Where the port moves within its transaction, ATTN stands settled. -/
theorem settleAttn_setPort {p : HostPort} (h : AttnLaw s) (ha : p.attn = s.hpt.attn) :
    settleAttn (setPort p s) = setPort p s := by
  have level : attnLevel (setPort p s) = p.attn := by rw [ha, (attnLevel_iff s).2 h]; rfl
  unfold settleAttn
  rw [level]
  rfl

theorem attnLaw_setPort {p : HostPort} (h : AttnLaw s) (ha : p.attn = s.hpt.attn) : AttnLaw (setPort p s) := by
  rw [← settleAttn_setPort h ha]
  exact settleAttn_law _

theorem clockIn_cons (b : Bool) (rest : List Bool) (h : portLive s = true)
    (ht : s.hpt.port = .takingCommand ∨ s.hpt.port = .takingParameters) :
    clockIn (b :: rest) s = clockIn rest (settleAttn (takeBit b s)) := by
  simp only [clockIn, exec_hckEdge_rise h, clockRise_taking ht]

/-- A command being taken is not complete: bits of it are still to come (R162). -/
theorem PortLaw.incomplete (h : PortLaw s) (ht : s.hpt.port = .takingCommand ∨ s.hpt.port = .takingParameters)
    {c : HostCommand} (hc : c.wellFormed = true) :
    bitsOfBytes (commandBytes c) ≠ bitsOfBytes s.hpt.taken ++ s.hpt.bits := by
  intro hb
  obtain ⟨zs, hz, hl⟩ := bitsOfBytes_eq_append hb
  have none : zs = [] := by
    have short := h.bits
    rw [← hl] at short
    cases zs with
    | nil => rfl
    | cons z zs =>
      simp [bitsOfBytes, msbFirst] at short
      omega
  rw [none, List.append_nil] at hz
  rcases ht with ht | ht
  · exact commandBytes_ne_nil c (hz.trans (h.command ht).1)
  · have unread := (h.parameters ht).2.1
    rw [← hz, readCommand_commandBytes hc] at unread
    cases unread

/-- The bits still to come, clocked in one by one, execute the command at the last of them (R161, R162). -/
theorem clockIn_executes {c : HostCommand} (hc : c.wellFormed = true) (rest : List Bool) : ∀ s : State, portLive s = true →
    s.hpt.port = .takingCommand ∨ s.hpt.port = .takingParameters → PortLaw s → AttnLaw s →
    bitsOfBytes (commandBytes c) = bitsOfBytes s.hpt.taken ++ s.hpt.bits ++ rest →
    clockIn rest s = settleAttn (executeCommand c (effectOf c) s) := by
  induction rest with
  | nil =>
    intro s _ ht hp _ hb
    exact absurd (by simpa using hb) (hp.incomplete ht hc)
  | cons b rest ih =>
    intro s hl ht hp ha hb
    have moved : ∀ p : HostPort, p.attn = s.hpt.attn → p.softResetDue = s.hpt.softResetDue →
        p.port = .takingCommand ∨ p.port = .takingParameters → PortLaw (setPort p s) →
        bitsOfBytes (commandBytes c) = bitsOfBytes p.taken ++ p.bits ++ rest →
        clockIn rest (settleAttn (setPort p s)) = settleAttn (executeCommand c (effectOf c) s) := by
      intro p hpa hpd hpt hpl hpb
      rw [settleAttn_setPort ha hpa, ih (setPort p s) hl hpt hpl (attnLaw_setPort ha hpa) hpb,
        executeCommand_setPort c hpa hpd]
    have next := hp.takesBit hl (isTaking_iff.2 ht) b
    rw [clockIn_cons b rest hl ht]
    rcases Nat.lt_or_ge s.hpt.bits.length 7 with short | full
    · rw [takeBit_bit short] at next ⊢
      exact moved _ rfl rfl ht next (by simpa using hb)
    · have seven : s.hpt.bits.length = 7 := by
        have := hp.bits
        omega
      set byte := byteOf (numberOfBits (s.hpt.bits ++ [b])) with hbyte
      have bits : s.hpt.bits ++ [b] = msbFirst byte := (msbFirst_byteOf _ (by simp [seven])).symm
      have whole : bitsOfBytes (commandBytes c) = bitsOfBytes (s.hpt.taken ++ [byte]) ++ rest := by
        rw [hb, bitsOfBytes_append, List.append_cons _ b rest, List.append_assoc _ _ [b], bits]
        simp [bitsOfBytes]
      obtain ⟨zs, hz, hr⟩ := bitsOfBytes_eq_append whole
      cases zs with
      | nil =>
        rw [List.append_nil] at hz
        have read : readCommand (s.hpt.taken ++ [byte]) = some c := hz ▸ readCommand_commandBytes hc
        rw [takeBit_command seven read, ← hr]
        rfl
      | cons z zs =>
        have unread : readCommand (s.hpt.taken ++ [byte]) = none := by
          have := readCommand_take hc (n := (s.hpt.taken ++ [byte]).length) (by rw [hz]; simp)
          rwa [hz, List.take_left] at this
        rw [takeBit_byte seven hbyte unread] at next ⊢
        exact moved _ rfl rfl (.inr rfl) next (by simpa using whole)

/-- Settles O7: the row executes the command that its remaining bits, clocked in, execute. -/
theorem clockedBitsExecuteCommand : Obligations.ClockedBitsExecuteCommand := by
  intro i c s rest hi hp law attn hb
  have taken := hp
  simp only [portTakes, Bool.and_eq_true] at taken
  obtain ⟨⟨⟨live, taking⟩, formed⟩, -⟩ := taken
  rw [exec_hostCommand hi, onPort_taken hp, clockIn_executes formed rest s live (isTaking_iff.1 taking) law attn hb]

end Sys2Proof.Machine

/-! PROOFS. The fields of the configuration record (R144 to R146, R179): ids, ranges and byte forms. -/

namespace Sys2Proof.Machine

variable {c c' : ConfigRecord} {f : FieldId}

/-! ### Ids (R144) -/

theorem fieldOfId_isSome (id : Byte) :
    (fieldOfId id).isSome = true ↔ (1 ≤ id.toNat ∧ id.toNat ≤ 14) ∨ (16 ≤ id.toNat ∧ id.toNat ≤ 19) := by
  unfold fieldOfId
  generalize id.toNat = n
  split
  case h_19 =>
    simp only [Option.isSome_none, Bool.false_eq_true, false_iff]
    grind
  all_goals simp

/-! ### Numbers and their bytes (R179) -/

theorem numberOfBytes_one (b : Byte) : numberOfBytes [b] = b.toNat := by simp [numberOfBytes]

theorem numberOfBytes_two (hi lo : Byte) : numberOfBytes [hi, lo] = hi.toNat * 256 + lo.toNat := by simp [numberOfBytes]

theorem twoBytes_number (hi lo : Byte) : twoBytes (hi.toNat * 256 + lo.toNat) = [hi, lo] := by
  have high : byteOf ((hi.toNat * 256 + lo.toNat) / 256) = hi := by
    rw [show (hi.toNat * 256 + lo.toNat) / 256 = hi.toNat by have := lo.isLt; omega, byteOf_of_toNat]
  have low : byteOf (hi.toNat * 256 + lo.toNat) = lo := by
    refine BitVec.eq_of_toNat_eq ?_
    rw [byteOf_toNat]
    have := lo.isLt
    omega
  rw [twoBytes, high, low]

theorem inRange_one {lo hi n : Nat} (h : lo ≤ n ∧ n ≤ hi) (hn : n < 256) : inRange lo hi [byteOf n] = some n := by
  unfold inRange
  rw [numberOfBytes_one, byteOf_toNat_of_lt hn, if_pos h]

theorem inRange_two {lo hi n : Nat} (h : lo ≤ n ∧ n ≤ hi) (hn : n < 65536) : inRange lo hi (twoBytes n) = some n := by
  unfold inRange twoBytes
  rw [numberOfBytes_two, byteOf_toNat, byteOf_toNat, show n / 256 % 256 * 256 + n % 256 = n by omega, if_pos h]

/-- The ATTN mask is read back with its lower four bits (R179). -/
theorem attnMaskOf_number (b : Byte) : byteOf (attnMaskOf b).number = b &&& 0x0F := by
  have bits : ∀ (n u t s : Bool) (i : Fin 8), (byteOf (numberOfBits [s, t, u, n])).getLsbD i =
      (if i.val = 0 then n else if i.val = 1 then u else if i.val = 2 then t else if i.val = 3 then s else false) := by
    decide
  refine BitVec.eq_of_getLsbD_eq fun i hi => ?_
  have := bits (b.getLsbD 0) (b.getLsbD 1) (b.getLsbD 2) (b.getLsbD 3) ⟨i, hi⟩
  simp only [attnMaskOf, AttnFlags.number, this, BitVec.getLsbD_and]
  interval_cases i <;> simp

theorem watchOf_watchBytes {w : Watch} (h : ∀ n, w.source = some n → n ≤ 31) : watchOf (watchBytes w) = some w := by
  obtain ⟨enabled, source, value, mask⟩ := w
  cases source with
  | none => cases enabled <;> simp [watchBytes, watchOf, watchSourceOf, flagByte]
  | some n =>
    have small := h n rfl
    have source : watchSourceOf (byteOf n) = some (some n) := by
      have hn := byteOf_toNat_of_lt (n := n) (by omega)
      have other : byteOf n ≠ 255 := by
        intro he
        rw [he] at hn
        simp at hn
        omega
      rw [watchSourceOf, if_neg other, hn, if_pos small]
    cases enabled <;> simp [watchBytes, watchOf, source, flagByte]

theorem flagByte_of_le_one {e : Byte} (h : e.toNat ≤ 1) : flagByte (decide (e = 1)) = e := by
  refine BitVec.eq_of_toNat_eq ?_
  by_cases he : e = 1
  · simp [flagByte, he]
  · have : e.toNat ≠ 1 := fun h1 => he (BitVec.eq_of_toNat_eq h1)
    rw [flagByte, decide_eq_false he, if_neg Bool.false_ne_true, show e.toNat = 0 by omega]
    rfl

theorem watchSourceOf_eq (src : Byte) : watchSourceOf src =
    if src.toNat ≤ 31 ∨ src = 255 then some (if src = 255 then none else some src.toNat) else none := by
  unfold watchSourceOf
  by_cases any : src = 255
  · rw [if_pos any, if_pos (.inr any), if_pos any]
  · by_cases station : src.toNat ≤ 31
    · rw [if_neg any, if_pos station, if_pos (.inl station), if_neg any]
    · rw [if_neg any, if_neg station, if_neg (by tauto)]

theorem watchOf_four (e src v m : Byte) : watchOf [e, src, v, m] =
    if e.toNat ≤ 1 ∧ (src.toNat ≤ 31 ∨ src = 255) then
      some { enabled := decide (e = 1), source := if src = 255 then none else some src.toNat, value := v, mask := m }
    else none := by
  dsimp only [watchOf]
  rw [watchSourceOf_eq, ite_and]
  by_cases known : src.toNat ≤ 31 ∨ src = 255
  · rw [if_pos known, if_pos known]
    rfl
  · rw [if_neg known, if_neg known]
    rfl

theorem watchBytes_watchOf {e src v m : Byte} {w : Watch} (h : watchOf [e, src, v, m] = some w) :
    watchBytes w = [e, src, v, m] := by
  rw [watchOf_four] at h
  split at h
  case isTrue range =>
    cases h
    have source : (match (if src = 255 then none else some src.toNat : Option Nat) with
        | none => (255 : Byte) | some n => byteOf n) = src := by
      by_cases any : src = 255
      · rw [if_pos any, any]
      · rw [if_neg any]
        exact byteOf_of_toNat src
    exact congrArg₂ (fun a b => [a, b, v, m]) (flagByte_of_le_one range.1) source
  case isFalse => cases h

/-! ### Writing and reading back (R145, R146) -/

/-- Reading back what SET FIELD has written: `watchBytes_watchOf` for a watch entry, the number's bytes elsewhere. -/
theorem readField_writeField_same {v : List Byte} (notMask : f ≠ .attnMask) (length : v.length = f.bytes)
    (h : writeField c f v = some c') : readField c' f = v := by
  have one : ∀ {lo hi n : Nat}, v.length = 1 → inRange lo hi v = some n → [byteOf n] = v := by
    intro lo hi n hv hn
    obtain ⟨b, rfl⟩ := List.length_eq_one_iff.mp hv
    rw [(inRange_eq_some.mp hn).1, numberOfBytes_one, byteOf_of_toNat]
  have two : ∀ {lo hi n : Nat}, v.length = 2 → inRange lo hi v = some n → twoBytes n = v := by
    intro lo hi n hv hn
    obtain ⟨a, b, rfl⟩ := List.length_eq_two.mp hv
    rw [(inRange_eq_some.mp hn).1, numberOfBytes_two, twoBytes_number]
  cases f
  case attnMask => exact absurd rfl notMask
  case watch i =>
    obtain ⟨w, hw, rfl⟩ := Option.map_eq_some_iff.mp h
    match v, length with
    | [e, src, x, m], _ => simpa [readField] using watchBytes_watchOf hw
  case divisor | pauseHold | presenceTimeout =>
    obtain ⟨n, hn, rfl⟩ := Option.map_eq_some_iff.mp h
    exact two length hn
  all_goals
    obtain ⟨n, hn, rfl⟩ := Option.map_eq_some_iff.mp h
    exact one length hn

theorem readField_writeField_other {g : FieldId} {v : List Byte} (h : writeField c f v = some c') (other : g ≠ f) :
    readField c' g = readField c g := by
  cases f
  case attnMask =>
    cases h
    cases g <;> simp_all [readField]
  case watch i =>
    obtain ⟨w, -, rfl⟩ := Option.map_eq_some_iff.mp h
    cases g
    case watch j =>
      have : i.val ≠ j.val := fun hij => other (by rw [Fin.ext hij])
      simp [readField, this]
    all_goals rfl
  all_goals
    obtain ⟨n, -, rfl⟩ := Option.map_eq_some_iff.mp h
    cases g <;> simp_all [readField]

theorem attnMaskOf_byteOf_number (flags : AttnFlags) : attnMaskOf (byteOf flags.number) = flags := by
  obtain ⟨n, u, t, s⟩ := flags
  cases n <;> cases u <;> cases t <;> cases s <;> rfl

theorem writeField_readField (law : ConfigLaw c) : writeField c f (readField c f) = some c := by
  cases f
  case attnMask => simp [writeField, readField, attnMaskOf_byteOf_number]
  case watch i =>
    have back := watchOf_watchBytes (law.watches i)
    simp only [writeField, readField, back, Option.map_some]
    simp
  case divisor => simp [writeField, readField, inRange_two law.divisor (by have := law.divisor; omega)]
  case pauseHold => simp [writeField, readField, inRange_two law.pauseHold (by have := law.pauseHold; omega)]
  case presenceTimeout =>
    simp [writeField, readField, inRange_two law.presenceTimeout (by have := law.presenceTimeout; omega)]
  case ownNumber =>
    simp [writeField, readField, inRange_one ⟨Nat.zero_le _, law.ownNumber⟩ (by have := law.ownNumber; omega)]
  case deliveryTimeout =>
    simp [writeField, readField, inRange_one ⟨Nat.zero_le _, law.deliveryTimeout⟩ (by have := law.deliveryTimeout; omega)]
  case ladderSize => simp [writeField, readField, inRange_one law.ladderSize (by have := law.ladderSize; omega)]
  case slotWidth => simp [writeField, readField, inRange_one law.slotWidth (by have := law.slotWidth; omega)]
  case replyWindow => simp [writeField, readField, inRange_one law.replyWindow (by have := law.replyWindow; omega)]
  case retryLimit => simp [writeField, readField, inRange_one law.retryLimit (by have := law.retryLimit; omega)]
  case collisionLimit =>
    simp [writeField, readField, inRange_one law.collisionLimit (by have := law.collisionLimit; omega)]
  case highMark => simp [writeField, readField, inRange_one law.highMark (by have := law.highMark; omega)]
  case lowMark => simp [writeField, readField, inRange_one law.lowMark (by have := law.lowMark; omega)]
  case deliveryThreshold =>
    simp [writeField, readField, inRange_one law.deliveryThreshold (by have := law.deliveryThreshold; omega)]

theorem map_inRange_one {α : Type} (lo hi : Nat) (b : Byte) (set : Nat → α) :
    (inRange lo hi [b]).map set = if lo ≤ b.toNat ∧ b.toNat ≤ hi then some (set b.toNat) else none := by
  unfold inRange
  rw [numberOfBytes_one]
  split <;> rfl

theorem map_inRange_two {α : Type} (low top : Nat) (hi lo : Byte) (set : Nat → α) :
    (inRange low top [hi, lo]).map set =
      if low ≤ hi.toNat * 256 + lo.toNat ∧ hi.toNat * 256 + lo.toNat ≤ top then some (set (hi.toNat * 256 + lo.toNat))
      else none := by
  unfold inRange
  rw [numberOfBytes_two]
  split <;> rfl

/-- Settles O14, field by field: ids by R144's table, values by their range and their bytes. -/
theorem fieldsHaveTheirRanges : Obligations.FieldsHaveTheirRanges := by
  refine ⟨fieldOfId_isSome, ?_, fun c c' f v => readField_writeField_same,
    fun c c' f g v h other => readField_writeField_other h other, fun c f law => writeField_readField law, ?_, ?_, ?_⟩
  · simp [fieldOfId]
  · intro c b within
    refine ⟨map_inRange_one .., map_inRange_one .., map_inRange_one .., map_inRange_one .., map_inRange_one ..,
      map_inRange_one .., map_inRange_one .., map_inRange_one .., map_inRange_one .., ?_, rfl, ?_⟩
    · have small : 0 ≤ b.toNat ∧ b.toNat ≤ 255 := ⟨Nat.zero_le _, by have := b.isLt; omega⟩
      exact (map_inRange_one ..).trans (if_pos small)
    · rintro c' ⟨⟩
      exact congrArg (fun x => [x]) (attnMaskOf_number b)
  · intro c hi lo n within
    exact ⟨map_inRange_two .., map_inRange_two .., map_inRange_two ..⟩
  · intro c i e src v m
    rw [writeField, watchOf_four]
    split <;> rfl

end Sys2Proof.Machine

/-! PROOFS. LEAVE, READ NOTICE and READ COUNTERS (R156, R173, R176), and the reset state with every law (R160, R182). -/

namespace Sys2Proof.Machine

variable {s : State}

/-! ### LEAVE (R75, R156, R158) -/

theorem exec_leave_answers {u : State} {answer : List Byte} (hp : portTakes .leave s = true)
    (he : cmdLeave s = (u, answer)) : exec .leave s = .next (settleAttn (answered .leave answer u)) :=
  next_onPort_answers hp rfl he

theorem cmdLeave_wrongState (h : s.stc.station = .unjoined ∨ s.stc.station = .leaving) :
    cmdLeave s = (s, [0x04]) := by
  obtain h | h := h <;> simp [cmdLeave, h, answerOf, AnswerCode.byte]

theorem cmdLeave_accepted (h : s.stc.station = .listening ∨ s.stc.station = .announcing ∨ s.stc.station = .active ∨
    s.stc.station = .halted) : cmdLeave s = (leaveStation s, [0x00]) := by
  obtain h | h | h | h := h <;> simp [cmdLeave, h, answerOf, AnswerCode.byte]

theorem inFlight_iff (st : EntryState) : st.inFlight = true ↔ st = .onLine ∨ st = .awaitingReply := by
  cases st <;> simp [EntryState.inFlight]

theorem entryIs_iff {test : EntryState → Bool} {h : Fin 16} :
    entryIs s.txq test h = true ↔ ∃ e, s.txq.entries[h] = some e ∧ test e.state = true := by
  unfold entryIs
  cases he : s.txq.entries[h] <;> simp

theorem anyInFlight_iff : anyInFlight s.txq = true ↔
    ∃ (h : Fin 16) (e : Entry), s.txq.entries[h] = some e ∧ (e.state = .onLine ∨ e.state = .awaitingReply) := by
  unfold anyInFlight
  rw [List.any_eq_true]
  simp only [mem_allHandles, true_and, entryIs_iff, inFlight_iff]

theorem withdrawn_inFlight (e : Entry) : (withdrawn e).state.inFlight = e.state.inFlight := by
  unfold withdrawn
  split
  case isTrue queued => cases h : e.state <;> simp_all [EntryState.isQueued, EntryState.inFlight]
  case isFalse => rfl

/-- LEAVE's withdrawal touches no entry in flight (R75). -/
theorem withdrawAll_anyInFlight (s : State) : anyInFlight (withdrawAll s).txq = anyInFlight s.txq := by
  have same : ∀ h : Fin 16, entryIs (withdrawAll s).txq EntryState.inFlight h = entryIs s.txq EntryState.inFlight h := by
    intro h
    have mapped := (withdrawAll_eq s).2 h
    unfold entryIs
    rw [mapped]
    cases s.txq.entries[h] with
    | none => rfl
    | some e => exact withdrawn_inFlight e
  exact congrArg allHandles.any (funext same)

/-- An accepted LEAVE with an entry in flight: LEAVING (R156). -/
theorem leaveStation_inFlight (h : anyInFlight s.txq = true) : leaveStation s = { s with
    txq := { s.txq with entries := (withdrawAll s).txq.entries },
    cgm := { s.cgm with announcement := none, announced := false, refreshTimer := none },
    stc := { s.stc with station := .leaving, listeningRound := none },
    notices := s.notices ++ withdrawalNotices (queuedOldestFirst s.txq) } := by
  rw [← withdrawAll_anyInFlight] at h
  have withdrawal := (withdrawAll_eq s).1
  unfold leaveStation monitorWithdraw setMonitor
  dsimp only
  rw [if_pos h, setStation]
  generalize withdrawAll s = t at *
  rw [withdrawal]

/-- An accepted LEAVE with no entry in flight: LEAVE completion at once (R156, R158). -/
theorem leaveStation_completes (h : anyInFlight s.txq = false) : leaveStation s = offerNotice (plainNotice .left 0)
    { s with
      lastSender := none,
      txq := { s.txq with entries := (withdrawAll s).txq.entries, beacon := .none },
      ptb := PeerTable.cleared,
      cgm := { s.cgm with announcement := none, announced := false, refreshTimer := none },
      stc := { s.stc with station := .unjoined, listeningRound := none },
      notices := s.notices ++ withdrawalNotices (queuedOldestFirst s.txq) } := by
  rw [← withdrawAll_anyInFlight] at h
  have withdrawal := (withdrawAll_eq s).1
  unfold leaveStation monitorWithdraw setMonitor
  dsimp only
  rw [if_neg (by simp [h]), leaveCompletion]
  congr 1
  generalize withdrawAll s = t at *
  rw [withdrawal]
  rfl

/-- A notice offered changes the notice queue and the counters alone (R172). -/
theorem offerNotice_eq (n : Notice) (s : State) :
    offerNotice n s = { s with notices := (offerNotice n s).notices, counters := (offerNotice n s).counters } := by
  unfold offerNotice
  split <;> rfl

/-- Of the state before it, an offer reads the notice queue and the counters alone (R172). -/
theorem NoticeOffered.congr {n : Notice} {s' t : State} (h : NoticeOffered n s t) (notices : s'.notices = s.notices)
    (counters : s'.counters = s.counters) : NoticeOffered n s' t := by
  unfold NoticeOffered at h ⊢
  rwa [notices, counters]

/-- Settles O16: refused in UNJOINED and LEAVING, else by whether an entry is in flight. -/
theorem leaveWithdrawsTheQueue : Obligations.LeaveWithdrawsTheQueue := by
  intro s hp
  refine ⟨fun refused => exec_leave_answers hp (cmdLeave_wrongState refused), fun active flight => ?_, fun joined none => ?_⟩
  · have left := leaveStation_inFlight (anyInFlight_iff.2 flight)
    refine ⟨leaveStation s, queuedOldestFirst s.txq,
      exec_leave_answers hp (cmdLeave_accepted (.inr (.inr (.inl active)))), ?_, ?_, queuedOldestFirst_order s⟩
    · rw [left]
    · rw [left]
      exact (withdrawAll_eq s).2
  · have idle : anyInFlight s.txq = false := by
      rw [Bool.eq_false_iff]
      intro flight
      obtain ⟨h, e, he, state⟩ := anyInFlight_iff.1 flight
      have := none h e he
      tauto
    have left := leaveStation_completes idle
    refine ⟨leaveStation s, queuedOldestFirst s.txq, exec_leave_answers hp (cmdLeave_accepted joined), ?_, ?_,
      queuedOldestFirst_order s, ?_⟩
    · rw [left, offerNotice_eq]
    · rw [left, offerNotice_eq]
      exact (withdrawAll_eq s).2
    · rw [left]
      exact (offerNotice_offered _ _).congr rfl rfl

/-! ### READ NOTICE and READ COUNTERS (R173, R176, R181) -/

theorem byteOf_noticeCode (k : NoticeKind) : byteOf k.code =
    if k = .sent then 0x01 else if k = .failed then 0x02 else if k = .peerFound then 0x10 else if k = .peerLost then 0x11
      else if k = .peerPaused then 0x12 else if k = .peerResumed then 0x13 else if k = .congested then 0x20
      else if k = .relieved then 0x21 else if k = .joined then 0x30 else if k = .left then 0x31
      else if k = .halted then 0x32 else if k = .numberClash then 0x40 else 0x41 := by
  cases k <;> rfl

theorem isCompletion_iff (k : NoticeKind) : k.isCompletion = true ↔ k = .sent ∨ k = .failed := by
  cases k <;> simp [NoticeKind.isCompletion]

theorem freeEntry_informational {n : Notice} (h : n.kind.isCompletion = false) (s : State) : freeEntry n s = s := by
  simp [freeEntry, h]

theorem freeEntry_completion {n : Notice} {h : Fin 16} (hc : n.kind.isCompletion = true) (hn : n.subject = byteOf h.val)
    (s : State) : freeEntry n s = setEntry h none s := by
  simp [freeEntry, hc, hn]

theorem cmdReadNotice_cons {n : Notice} {rest : List Notice} (h : s.notices = n :: rest) :
    cmdReadNotice s = (freeEntry n { s with notices := rest }, [0x00, byteOf n.kind.code, n.subject, n.detail]) := by
  simp only [cmdReadNotice, h]
  rfl

/-- Settles O21: the head notice by its kind, and the counts as READ COUNTERS spells them. -/
theorem readNoticeAndReadCounters : Obligations.ReadNoticeAndReadCounters := by
  constructor
  · intro s hp code
    refine ⟨fun empty => ?_, fun n rest hn => ⟨fun notSent notFailed => ?_, fun h completion subject => ?_⟩⟩
    · have answers : cmdReadNotice s = (s, [0x01]) := by simp [cmdReadNotice, empty, answerOf, AnswerCode.byte]
      exact next_onPort_answers hp rfl answers
    · have informational : n.kind.isCompletion = false :=
        Bool.eq_false_iff.2 fun h => ((isCompletion_iff _).1 h).elim notSent notFailed
      have taken := cmdReadNotice_cons hn
      rw [freeEntry_informational informational, byteOf_noticeCode] at taken
      exact next_onPort_answers hp rfl taken
    · have taken := cmdReadNotice_cons hn
      rw [freeEntry_completion ((isCompletion_iff _).2 completion) subject, byteOf_noticeCode] at taken
      exact next_onPort_answers hp rfl taken
  · rintro s c rfl hp
    exact next_onPort_answers hp rfl rfl

/-! ### The reset state (R160, R182) -/

theorem PeerLaw.cleared : PeerLaw Peer.cleared := by
  constructor <;> simp [Peer.cleared]

@[simp] theorem PeerTable.cleared_record (p : Fin 32) : PeerTable.cleared.records[p] = Peer.cleared := by
  simp [PeerTable.cleared]

@[simp] theorem TransmitQueue.afterReset_entry (h : Fin 16) : TransmitQueue.afterReset.entries[h] = none := by
  simp [TransmitQueue.afterReset]

theorem peersLaw_afterReset (h : s.ptb = PeerTable.cleared) : PeersLaw s := by
  intro p
  rw [h, PeerTable.cleared_record]
  exact PeerLaw.cleared

theorem tableLaw_afterReset (h : s.ptb = PeerTable.cleared) : TableLaw s :=
  ⟨fun _ => h, fun p _ => by rw [h, PeerTable.cleared_record]⟩

theorem queueLaw_afterReset (queue : s.txq = TransmitQueue.afterReset) (reply : s.rpu = ReplyUnit.afterReset)
    (own : s.lif.own = none) (station : s.stc.station = .unjoined) : QueueLaw s := by
  have free : ∀ h : Fin 16, s.txq.entries[h] = none := fun h => by rw [queue, TransmitQueue.afterReset_entry]
  have current : s.txq.current = none := by rw [queue]; rfl
  have wait : s.rpu.wait = none := by rw [reply]; rfl
  constructor <;> simp [entryIs, free, current, wait, own, station]

/-- Settles O59: the law of each block in its reset state. -/
theorem resetKeepsEveryLaw : Obligations.ResetKeepsEveryLaw :=
  ⟨defaults_law, ReceivePool.afterReset_law, noticeLaw_afterReset rfl rfl, peersLaw_afterReset rfl,
    queueLaw_afterReset rfl rfl rfl rfl, tableLaw_afterReset rfl, monitorLaw_afterReset rfl rfl (by decide),
    ladderLaw_unjoined rfl rfl rfl, LineLaw.afterReset _ _, (fun a h => by cases h), payloadLaw_afterReset rfl rfl,
    hardReset_portLaw true State.reset, Counters.zero_law, settleAttn_law State.reset⟩

/-- Settles O60: the reset values, field by field. -/
theorem resetValues : Obligations.ResetValues := by
  refine ⟨rfl, TransmitQueue.afterReset_entry, rfl, rfl, rfl, rfl, PeerTable.cleared_record, rfl, ?_⟩
  simp [State.reset, Counters.zero, Counters.values]

end Sys2Proof.Machine

/-! PROOFS. Time and the events that it raises: one bit time on an empty queue, and events whose condition does not hold (log
entries 3, 4, 6). -/

namespace Sys2Proof.Machine

variable {s : State} {l : LineInterface} {c : Instr}

/-! ### The events due at a boundary (log entry 4) -/

theorem mem_due {p : Prop} [Decidable p] {i : Instr} : c ∈ (if p then [i] else []) ↔ c = i ∧ p := by
  rw [List.mem_ite_nil_right, List.mem_singleton, and_comm]

theorem isLadderTime_iff {config : ConfigRecord} {idle : Nat} : isLadderTime config idle = true ↔
    config.replyWindow + 4 ≤ idle ∧ (idle - (config.replyWindow + 4)) % config.slotWidth = 0 := by
  simp only [isLadderTime, Bool.and_eq_true, decide_eq_true_eq]
  exact Iff.rfl

theorem mem_tickDue : c ∈ tickDue l ↔ c = .tick ∧ l.tickBase = 0 := mem_due

theorem mem_roundDue {round : Option Nat} {idle : Nat} :
    c ∈ (match round with
      | some round => if round ≤ idle then [Instr.listeningRoundEnd idle] else []
      | none => []) ↔ c = .listeningRoundEnd idle ∧ ∃ r, round = some r ∧ r ≤ idle := by
  cases round with
  | none => simp
  | some r => simp [List.mem_ite_nil_right, and_comm]

theorem mem_idleDue : c ∈ idleDue s ↔ s.lif.idleCounting = true ∧
    ((c = .idleGapLimit ∧ s.lif.idle = 7) ∨ (c = .replyStart ∧ s.lif.idle = 2) ∨
      (c = .replyWindowEnd ∧ s.lif.idle = s.stc.config.replyWindow) ∨
      (c = .slotOpening s.lif.idle ∧ s.stc.config.replyWindow + 4 ≤ s.lif.idle ∧
        (s.lif.idle - (s.stc.config.replyWindow + 4)) % s.stc.config.slotWidth = 0) ∨
      (c = .listeningRoundEnd s.lif.idle ∧ ∃ round, s.stc.listeningRound = some round ∧ round ≤ s.lif.idle)) := by
  rw [idleDue, List.mem_ite_nil_right]
  refine and_congr_right fun _ => ?_
  rw [List.mem_append, List.mem_append, List.mem_append, List.mem_append, or_assoc, or_assoc, or_assoc]
  exact or_congr mem_due (or_congr mem_due (or_congr mem_due (or_congr
    (mem_due.trans (and_congr_right fun _ => isLadderTime_iff)) mem_roundDue)))

theorem mem_transmitDue : c ∈ transmitDue l ↔
    (c = .ltxStartBit ∧ ((l.transmitter = .lead ∧ 1 ≤ l.bitTimer) ∨
      (l.transmitter = .sending ∧ 10 ≤ l.bitTimer ∧ l.toSend ≠ []))) ∨
    (c = .lastStopBitEnd ∧ l.transmitter = .sending ∧ 10 ≤ l.bitTimer ∧ l.toSend = []) ∨
    (c = .ldeRelease ∧ l.transmitter = .trailing ∧ 1 ≤ l.bitTimer) := by
  unfold transmitDue
  cases l.transmitter with
  | off => simp
  | lead => simp [List.mem_ite_nil_right, and_comm]
  | sending =>
    rw [List.mem_ite_nil_right, Config.characterBits]
    cases hs : l.toSend <;> simp [and_comm]
  | trailing => simp [List.mem_ite_nil_right, and_comm]

theorem mem_echoDue : c ∈ echoDue l ↔ c = .echoLoss ∧ (∃ o, l.own = some o ∧ o.comparison = .opened) ∧
    ∃ e rest, l.echo = e :: rest ∧ 30 ≤ e.elapsed := by
  unfold echoDue
  cases l.echo with
  | nil => simp
  | cons e rest =>
    have awaited : (∃ e' rest', e :: rest = e' :: rest' ∧ 30 ≤ e'.elapsed) ↔ 30 ≤ e.elapsed := by simp
    refine mem_due.trans (and_congr_right fun _ => ?_)
    rw [awaited, Bool.and_eq_true, isOpen_iff, decide_eq_true_eq]
    exact Iff.rfl

theorem mem_armDue : c ∈ armDue l ↔ c = .receiverArmed ∧ l.receiver = .unarmed true := by
  unfold armDue
  cases l.receiver with
  | unarmed lrxHigh => cases lrxHigh <;> simp
  | armed => simp
  | inCharacter => simp
  | holding => simp

/-- Events in rising order of their numbers, each below `hi` and none below `lo`. -/
def DueBetween (lo hi : Nat) (due : List Instr) : Prop :=
  due.Pairwise (fun a b => dueKey a < dueKey b) ∧ ∀ c ∈ due, lo ≤ dueKey c ∧ dueKey c < hi

theorem DueBetween.append {lo mid hi : Nat} {xs ys : List Instr} (hx : DueBetween lo mid xs) (hy : DueBetween mid hi ys)
    (below : lo ≤ mid) (above : mid ≤ hi) : DueBetween lo hi (xs ++ ys) := by
  obtain ⟨px, rx⟩ := hx
  obtain ⟨py, ry⟩ := hy
  refine ⟨List.pairwise_append.2 ⟨px, py, fun a ha b hb => ?_⟩, fun c hc => ?_⟩
  · exact lt_of_lt_of_le (rx a ha).2 (ry b hb).1
  · rcases List.mem_append.1 hc with h | h
    · exact ⟨(rx c h).1, lt_of_lt_of_le (rx c h).2 above⟩
    · exact ⟨le_trans below (ry c h).1, (ry c h).2⟩

theorem DueBetween.nil (lo hi : Nat) : DueBetween lo hi [] := ⟨List.Pairwise.nil, by simp⟩

theorem DueBetween.one {lo hi : Nat} (h : lo ≤ dueKey c ∧ dueKey c < hi) : DueBetween lo hi [c] :=
  ⟨List.pairwise_singleton _ _, by simpa using h⟩

theorem DueBetween.ite {lo hi : Nat} {p : Prop} [Decidable p] (h : lo ≤ dueKey c ∧ dueKey c < hi) :
    DueBetween lo hi (if p then [c] else []) := by
  split
  · exact .one h
  · exact .nil lo hi

theorem idleDue_between (s : State) : DueBetween 1 6 (idleDue s) := by
  unfold idleDue
  split
  case isFalse => exact .nil 1 6
  case isTrue =>
    have round : DueBetween 5 6 (match s.stc.listeningRound with
        | some round => if round ≤ s.lif.idle then [Instr.listeningRoundEnd s.lif.idle] else []
        | none => []) := by
      cases s.stc.listeningRound with
      | none => exact .nil 5 6
      | some r => exact .ite (by simp [dueKey])
    exact ((((DueBetween.ite (lo := 1) (hi := 2) (by decide)).append (.ite (hi := 3) (by decide)) (by decide)
      (by decide)).append (.ite (hi := 4) (by decide)) (by decide) (by decide)).append
      (.ite (hi := 5) (by simp [dueKey])) (by decide) (by decide)).append round (by decide) (by decide)

theorem transmitDue_between (l : LineInterface) : DueBetween 6 9 (transmitDue l) := by
  unfold transmitDue
  cases l.transmitter with
  | off => exact .nil 6 9
  | lead => exact .ite (by decide)
  | sending =>
    dsimp only
    split
    · split
      · exact .one (by decide)
      · exact .one (by decide)
    · exact .nil 6 9
  | trailing => exact .ite (by decide)

theorem echoDue_between (l : LineInterface) : DueBetween 9 10 (echoDue l) := by
  unfold echoDue
  cases l.echo with
  | nil => exact .nil 9 10
  | cons e rest => exact .ite (by decide)

theorem armDue_between (l : LineInterface) : DueBetween 10 11 (armDue l) := by
  unfold armDue
  cases l.receiver with
  | unarmed lrxHigh => exact .ite (by decide)
  | armed => exact .nil 10 11
  | inCharacter => exact .nil 10 11
  | holding => exact .nil 10 11

/-- No event is due twice at a boundary: their numbers rise. -/
theorem dueEvents_nodup (s : State) : (dueEvents s).Nodup := by
  have tick : DueBetween 0 1 (tickDue s.lif) := .ite (by decide)
  have rising := (((tick.append (idleDue_between s) (by decide) (by decide)).append (transmitDue_between s.lif)
    (by decide) (by decide)).append (echoDue_between s.lif) (by decide) (by decide)).append (armDue_between s.lif)
    (by decide) (by decide)
  exact rising.1.imp fun h heq => absurd (heq ▸ h) (lt_irrefl _)

theorem mem_dueEvents : c ∈ dueEvents s ↔
    c ∈ tickDue s.lif ∨ c ∈ idleDue s ∨ c ∈ transmitDue s.lif ∨ c ∈ echoDue s.lif ∨ c ∈ armDue s.lif := by
  simp only [dueEvents, List.mem_append, or_assoc]

/-- The state after one bit time, the events due not yet queued (R16, R17, R20, R23, R26). -/
def bitTimePassed (s : State) : State := setLine (takeBitTime s).lif.afterBitTime (takeBitTime s)

theorem bitTimePassed_eq (s : State) : bitTimePassed s = { s with lif := { s.lif with
    divisor := if s.lif.own = none then s.stc.config.divisor else s.lif.divisor,
    startDivisor := if s.lif.own = none then s.stc.config.divisor else s.lif.startDivisor,
    tickBase := if s.lif.tickBase + 1 < 256 then s.lif.tickBase + 1 else 0,
    idle := if s.lif.idleCounting = true then s.lif.idle + 1 else s.lif.idle,
    bitTimer := if s.lif.transmitter = .off then s.lif.bitTimer else s.lif.bitTimer + 1,
    echo := s.lif.echo.map fun c => { c with elapsed := c.elapsed + 1 } } } := by
  rw [bitTimePassed, takeBitTime_eq]
  rfl

theorem bitTimePasses_eq (s : State) : bitTimePasses s = { bitTimePassed s with
    choices := (freeOrder dueKey (dueEvents (bitTimePassed s)) (bitTimePassed s)).2.choices,
    pending := s.pending ++ (freeOrder dueKey (dueEvents (bitTimePassed s)) (bitTimePassed s)).1 } := by
  have waiting : (bitTimePassed s).pending = s.pending := by rw [bitTimePassed_eq]
  rw [← waiting]
  unfold bitTimePasses bitTimePassed
  generalize takeBitTime s = b
  dsimp only
  generalize setLine b.lif.afterBitTime b = passed
  rw [freeOrder_state]

theorem step_empty (h : s.pending = []) (hr : running s = true) : ∃ t, step s = .next t ∧
    t = { bitTimePassed s with choices := t.choices, pending := t.pending } ∧
    t.pending.Perm (dueEvents (bitTimePassed s)) := by
  refine ⟨bitTimePasses s, ?_, ?_, ?_⟩
  · simp only [step, h, idleStep, whenRunning, hr, if_true]
  · rw [bitTimePasses_eq]
  · rw [bitTimePasses_eq, h]
    exact freeOrder_perm _ _ _

/-- Settles O2: the counts by `bitTimePassed`, the queue as an order of the events due. -/
theorem emptyQueueLetsBitTimePass : Obligations.EmptyQueueLetsBitTimePass := by
  intro s empty
  refine ⟨fun reset => by simp [step, empty, idleStep, whenRunning, reset], fun hr => ?_⟩
  obtain ⟨t, ht, state, queue⟩ := step_empty empty hr
  have line : t.lif = (bitTimePassed s).lif := by rw [state]
  have station : t.stc = (bitTimePassed s).stc := by rw [state]
  refine ⟨t, ht, ?_, ?_, queue.nodup_iff.2 (dueEvents_nodup _), fun c => ?_⟩
  · rw [state, bitTimePassed_eq]
  · rw [line, bitTimePassed_eq]
  · rw [queue.mem_iff, mem_dueEvents, mem_tickDue, mem_idleDue, mem_transmitDue, mem_echoDue, mem_armDue, line, station,
      or_assoc, or_assoc]

end Sys2Proof.Machine

/-! PROOFS. Rules for an event that is raised or not (log entry 6), then the events of the receiver, the transmitter and the
slow timers (R18 to R26). -/

namespace Sys2Proof.Machine

variable {s t : State} {i : Instr} {f : State → State} {k : Nat}

/-! ### Rules of events (R21, R182; log entry 6) -/

theorem exec_raised (h : runningEvent i = some f) (hr : running s = true) (ht : f s = t) :
    exec i s = .next (settleAttn t) := by
  rw [exec_running h, whenRunning, if_pos hr, ht]

/-- An event that does nothing changes nothing, in reset too. -/
theorem exec_unchanged (h : runningEvent i = some f) (same : f s = s) : exec i s = .next (settleAttn s) := by
  rw [exec_running h, whenRunning]
  split
  · rw [same]
  · rfl

theorem exec_inReset (h : runningEvent i = some f) (hr : running s = false) : exec i s = .next (settleAttn s) := by
  rw [exec_running h, whenRunning, if_neg (by simp [hr])]

theorem exec_idleRaised (h : idleEvent s.stc.config i = some (k, f)) (reached : idleReaches k s = true)
    (ht : f (atIdleTime k s) = t) : exec i s = .next (settleAttn t) := by
  rw [exec_idle h, atIdle, if_pos reached, setIdle_eq, ht]

theorem exec_idleNotRaised (h : idleEvent s.stc.config i = some (k, f))
    (passed : running s = false ∨ s.lif.idleCounting = false ∨ k < s.lif.idle ∨ k = 0) :
    exec i s = .next (settleAttn s) := by
  have not : ¬ idleReaches k s = true := by
    rw [idleReaches_iff]
    rintro ⟨running, counting, positive, below⟩
    rcases passed with h | h | h | h
    · exact Bool.false_ne_true (h.symm.trans running)
    · exact Bool.false_ne_true (h.symm.trans counting)
    · omega
    · omega
  rw [exec_idle h, atIdle, if_neg not]

/-! ### The receiver (R19, R20) -/

theorem startBitBegins_armed (h : s.lif.receiver = .armed) : startBitBegins s = { s with lif := { s.lif with
    receiver := .inCharacter s.lif.lde s.lif.startDivisor, idle := 0, idleCounting := false } } := by
  simp only [startBitBegins, h]
  rfl

theorem startBitBegins_unarmed {b : Bool} (h : s.lif.receiver = .unarmed b) : startBitBegins s =
    { s with lif := { s.lif with receiver := .unarmed false, idle := 0, idleCounting := false } } := by
  simp only [startBitBegins, h]
  rfl

theorem startBitBegins_other (h : s.lif.receiver = .holding ∨ ∃ lde d, s.lif.receiver = .inCharacter lde d) :
    startBitBegins s = s := by
  rcases h with h | ⟨lde, d, h⟩ <;> simp [startBitBegins, h]

theorem startBitRejected_inCharacter {lde : Bool} {d : Nat} (h : s.lif.receiver = .inCharacter lde d) :
    startBitRejected s = { s with lif := { s.lif with receiver := .armed, idle := 0, idleCounting := true } } := by
  simp only [startBitRejected, h]
  rfl

theorem startBitRejected_other (h : ∀ lde d, s.lif.receiver ≠ .inCharacter lde d) : startBitRejected s = s := by
  unfold startBitRejected
  split
  case h_1 lde d hr => exact absurd hr (h lde d)
  case h_2 => rfl

theorem characterCompletes_other (h : ∀ lde d, s.lif.receiver ≠ .inCharacter lde d) (value : Byte) (stop : Bool) :
    characterCompletes value stop s = s := by
  unfold characterCompletes
  split
  case h_1 lde d hr => exact absurd hr (h lde d)
  case h_2 => rfl

theorem holdingEnds_holding (h : s.lif.receiver = .holding) :
    holdingEnds s = { s with lif := { s.lif with receiver := .armed, idle := 0, idleCounting := true } } := by
  simp only [holdingEnds, h]
  rfl

theorem holdingEnds_other (h : s.lif.receiver ≠ .holding) : holdingEnds s = s := by
  unfold holdingEnds
  split
  case h_1 hr => exact absurd hr h
  case h_2 => rfl

theorem receiverArms_unarmed {b : Bool} (h : s.lif.receiver = .unarmed b) :
    receiverArms s = { s with lif := { s.lif with receiver := .armed, idleCounting := true } } := by
  simp only [receiverArms, h]
  rfl

theorem receiverArms_other (h : ∀ b, s.lif.receiver ≠ .unarmed b) : receiverArms s = s := by
  unfold receiverArms
  split
  case h_1 b hr => exact absurd hr (h b)
  case h_2 => rfl

/-- Settles O24: each event in the receiver state that raises it. -/
theorem receiverFollowsTheLine : Obligations.ReceiverFollowsTheLine := by
  intro s hr
  refine ⟨fun armed => ?_, ?_, ?_, fun holding => ?_, ?_⟩
  · exact exec_raised rfl hr (startBitBegins_armed armed)
  · rintro ⟨b, unarmed⟩
    exact exec_raised rfl hr (startBitBegins_unarmed unarmed)
  · rintro ⟨lde, d, inCharacter⟩
    exact exec_raised rfl hr (startBitRejected_inCharacter inCharacter)
  · exact exec_raised rfl hr (holdingEnds_holding holding)
  · rintro ⟨b, unarmed⟩
    exact exec_raised rfl hr (receiverArms_unarmed unarmed)

/-! ### The transmitter (R23 to R26) -/

theorem lastStopBitEnds_other (h : s.lif.transmitter ≠ .sending ∨ s.lif.toSend ≠ []) : lastStopBitEnds s = s := by
  have not : ¬ isLastCharacter s.lif = true := by
    rw [isLastCharacter_iff]
    tauto
  rw [lastStopBitEnds, if_neg not]

theorem sendCharacter_other (h : ¬ (∃ o, s.lif.own = some o ∧ o.comparison = .opened) ∨ s.lif.toSend = [] ∨
    4 ≤ s.lif.echo.length ∨ (s.lif.transmitter ≠ .lead ∧ s.lif.transmitter ≠ .sending)) : sendCharacter s = s := by
  unfold sendCharacter
  split
  case h_1 c rest hs =>
    have not : ¬ canSendCharacter s.lif = true := by
      rw [canSendCharacter_iff]
      rintro ⟨opened, room, moving⟩
      rcases h with h | h | h | h
      · exact h opened
      · simp [hs] at h
      · omega
      · tauto
    rw [if_neg not]
  case h_2 => rfl

theorem ldeReleases_other (h : s.lif.transmitter = .off ∨ s.lif.transmitter = .lead ∨ (s.lif.transmitter = .sending ∧
    ¬ ∃ o, s.lif.own = some o ∧ (o.comparison = .collided ∨ o.comparison = .echoLost))) : ldeReleases s = s := by
  have not : ¬ canReleaseLde s.lif = true := by
    rw [canReleaseLde_iff]
    rintro (trailing | ⟨sending, cut⟩)
    · simp [trailing] at h
    · simp [sending] at h
      obtain ⟨o, ho, hc⟩ := cut
      have := h o ho
      tauto
  rw [ldeReleases, if_neg not]

theorem echoLossFound_other (h : ¬ (∃ o, s.lif.own = some o ∧ o.comparison = .opened) ∨ s.lif.echo = []) :
    echoLossFound s = s := by
  have not : ¬ (s.lif.isOpen && !s.lif.echo.isEmpty) = true := by
    rw [Bool.and_eq_true, isOpen_iff, Bool.not_eq_true', List.isEmpty_eq_false_iff]
    rintro ⟨opened, awaited⟩
    exact h.elim (fun h => h opened) awaited
  rw [echoLossFound, if_neg not]

theorem startBitDue_cut (h : ∃ o, s.lif.own = some o ∧ (o.comparison = .collided ∨ o.comparison = .echoLost)) :
    startBitDue s = lastStopBitEnds s := by
  rw [startBitDue, if_pos (isCut_iff.2 h)]

theorem startBitDue_uncut (h : ¬ ∃ o, s.lif.own = some o ∧ (o.comparison = .collided ∨ o.comparison = .echoLost)) :
    startBitDue s = sendCharacter s := by
  rw [startBitDue, if_neg (fun cut => h (isCut_iff.1 cut))]

theorem sendCharacter_sends {c : Byte} {rest : List Byte} (next : s.lif.toSend = c :: rest)
    (can : canSendCharacter s.lif = true) : sendCharacter s = { s with lif := { s.lif with
      transmitter := .sending, bitTimer := 0, sending := some c, toSend := rest,
      echo := s.lif.echo ++ [{ value := c, elapsed := 0 }] } } := by
  unfold sendCharacter
  rw [next]
  exact if_pos can

theorem lastStopBitEnds_last {own : OwnFrame} (progress : s.lif.own = some own) (sending : s.lif.transmitter = .sending)
    (last : s.lif.toSend = []) : lastStopBitEnds s = { s with lif := { s.lif with
      transmitter := .trailing, bitTimer := 0, sending := none,
      own := if own.comparison = .opened ∧ s.lif.echo = [] then some { own with comparison := .settledClean }
        else s.lif.own } } := by
  have isLast : isLastCharacter s.lif = true := isLastCharacter_iff.2 ⟨sending, last⟩
  unfold lastStopBitEnds
  rw [if_pos isLast]
  by_cases opened : own.comparison = .opened
  · by_cases echoed : s.lif.echo = []
    · simp [setLine, LineInterface.isOpen, progress, opened, echoed, LineInterface.settle, LineInterface.allEchoed,
        LineInterface.judged]
    · simp [setLine, LineInterface.isOpen, progress, opened, echoed, LineInterface.settle, LineInterface.allEchoed]
  · simp [setLine, LineInterface.isOpen, progress, opened]

theorem finishOwnFrame_opened (h : ∀ o, s.lif.own = some o → o.comparison = .opened) : finishOwnFrame s = s := by
  unfold finishOwnFrame endedOwnFrame
  cases ht : s.lif.transmitter with
  | off =>
    cases ho : s.lif.own with
    | none => rfl
    | some o => simp [h o ho, outcomeOf]
  | lead => rfl
  | sending => rfl
  | trailing => rfl

theorem ldeReleases_opened {own : OwnFrame} (progress : s.lif.own = some own) (opened : own.comparison = .opened)
    (trailing : s.lif.transmitter = .trailing) : ldeReleases s =
      { s with lif := { s.lif with transmitter := .off, lde := false, bitTimer := 0, sending := none } } := by
  unfold ldeReleases
  rw [if_pos (canReleaseLde_iff.2 (.inl trailing)), finishOwnFrame_opened]
  · rfl
  · intro o ho
    exact Option.some.inj (progress.symm.trans ho) ▸ opened

theorem ltxPin_sending {c : Byte} (powered : s.pins.vddOk = true) (sending : s.lif.transmitter = .sending)
    (character : s.lif.sending = some c) : ltxPin s = if s.lif.bitTimer = 0 then .low
      else if 9 ≤ s.lif.bitTimer ∨ c.getLsbD (s.lif.bitTimer - 1) = true then .high else .low := by
  unfold ltxPin
  rw [sending, character]
  simp only [powered, Bool.not_true, Bool.false_eq_true, if_false, lineBit]
  by_cases start : s.lif.bitTimer = 0
  · simp [start]
  · by_cases data : s.lif.bitTimer ≤ 8
    · have before : ¬ 9 ≤ s.lif.bitTimer := by omega
      simp [start, data, before]
    · have stop : 9 ≤ s.lif.bitTimer := by omega
      simp [start, data, stop]

/-- Settles O38: the transmitter's moves in the order of a frame. -/
theorem transmitterSendsTheFrame : Obligations.TransmitterSendsTheFrame := by
  intro s own hr progress
  have powered : s.pins.vddOk = true := (running_iff.1 hr).1
  have theOne : ∀ {o}, s.lif.own = some o → o = own := fun ho => Option.some.inj (ho.symm.trans progress)
  refine ⟨fun c rest opened next room moving => ?_, fun c sending character => ltxPin_sending powered sending character,
    fun cut sending last => ?_, fun sending last => ?_, fun trailing opened => ?_⟩
  · have uncut : ¬ ∃ o, s.lif.own = some o ∧ (o.comparison = .collided ∨ o.comparison = .echoLost) := by
      rintro ⟨o, ho, cut⟩
      simp [theOne ho, opened] at cut
    have can : canSendCharacter s.lif = true := canSendCharacter_iff.2 ⟨⟨own, progress, opened⟩, by omega, moving⟩
    exact exec_raised rfl hr ((startBitDue_uncut uncut).trans (sendCharacter_sends next can))
  · have notOpen : ¬ (own.comparison = .opened ∧ s.lif.echo = []) := by
      rintro ⟨opened, -⟩
      simp [opened] at cut
    refine exec_raised rfl hr ((startBitDue_cut ⟨own, progress, cut⟩).trans ?_)
    rw [lastStopBitEnds_last progress sending last, if_neg notOpen]
  · exact exec_raised rfl hr (lastStopBitEnds_last progress sending last)
  · refine ⟨_, exec_raised rfl hr (ldeReleases_opened progress opened trailing), rfl, fun vdd => ?_⟩
    simp [ldePin, ltxPin, settleAttn, vdd]

/-! ### The slow timers (R18) -/

/-- A peer lost, with its entries and its notice (R68, R100). -/
theorem losePeer_lost (p : Fin 32) (s : State) :
    losePeer p s = { s with
        ptb := setRecord p { s.ptb.records[p] with present := false, silence := none, paused := false, pauseTimer := none,
                                                   lastReceived := none } s.ptb,
        txq := { s.txq with entries := (losePeer p s).txq.entries }, notices := (losePeer p s).notices,
        counters := (losePeer p s).counters } ∧
      EntriesMapped (if s.ptb.records[p].paused = true then releasedBy p else id) s (losePeer p s) ∧
      NoticeOffered { kind := .peerLost, subject := byteOf p.val, detail := 0 } s (losePeer p s) := by
  unfold losePeer
  dsimp only
  by_cases paused : s.ptb.records[p].paused = true
  · rw [if_pos paused, if_pos paused, offerNotice_eq]
    exact ⟨rfl, (pauseEntries_entries p s).2, (offerNotice_offered _ _).congr rfl rfl⟩
  · rw [if_neg paused, if_neg paused, offerNotice_eq]
    exact ⟨rfl, fun h => by simp [setPeer], (offerNotice_offered _ _).congr rfl rfl⟩

/-- A paused peer unpaused, with its entries and its notice (R68, R104 to R106). -/
theorem resumePeer_resumed {p : Fin 32} {s : State} (paused : s.ptb.records[p].paused = true) (cause : ResumeCause) :
    resumePeer p cause s = { s with
        ptb := setRecord p { s.ptb.records[p] with paused := false, pauseTimer := none } s.ptb,
        txq := { s.txq with entries := (resumePeer p cause s).txq.entries }, notices := (resumePeer p cause s).notices,
        counters := (resumePeer p cause s).counters } ∧
      EntriesMapped (releasedBy p) s (resumePeer p cause s) ∧
      NoticeOffered (resumedNotice p cause) s (resumePeer p cause s) := by
  unfold resumePeer
  dsimp only
  rw [if_pos paused, offerNotice_eq]
  exact ⟨rfl, (pauseEntries_entries p s).2, (offerNotice_offered _ _).congr rfl rfl⟩

theorem beaconTimerEnds_ends (h : ∃ n, s.ptb.beaconTimer = some n ∧ n ≤ 1) : beaconTimerEnds s = { s with
    ptb := { s.ptb with beaconTimer := none },
    txq := if s.stc.station = .active then { s.txq with beacon := .plain } else s.txq } := by
  rw [beaconTimerEnds, if_pos (timerExpires_iff.2 h), beaconExpires]
  dsimp only
  split <;> rfl

theorem refreshTimerEnds_ends (h : ∃ n, s.cgm.refreshTimer = some n ∧ n ≤ 1) : refreshTimerEnds s = { s with
    cgm := { s.cgm with
      refreshTimer := none,
      announcement := if s.cgm.announcement = none then some .pause else s.cgm.announcement } } := by
  rw [refreshTimerEnds, if_pos (timerExpires_iff.2 h), refreshExpires]
  simp [setMonitor]

theorem deliveryTimerEnds_ends (h : ∃ n, s.rxp.deliveryTimer = some n ∧ n ≤ 1) : deliveryTimerEnds s =
    { s with rxp := { s.rxp with stale := true, deliveryTimer := none } } := by
  rw [deliveryTimerEnds, if_pos (timerExpires_iff.2 h)]
  rfl

/-- Settles O45: each timer's expiry where a tick event brings it to 0. -/
theorem timerExpiriesAct : Obligations.TimerExpiriesAct := by
  intro s hr ends lost
  have notExpires : ∀ {timer}, ¬ ends timer → timerExpires timer = false := fun h =>
    Bool.eq_false_iff.2 fun h' => h (timerExpires_iff.1 h')
  refine ⟨?_, ?_, ?_, fun h => exec_raised rfl hr (beaconTimerEnds_ends h),
    fun h => exec_raised rfl hr (refreshTimerEnds_ends h), fun h => exec_raised rfl hr (deliveryTimerEnds_ends h)⟩
  · rintro p r rfl silence
    have expires : silenceExpires p s = losePeer p s := by
      rw [silenceExpires, if_pos (timerExpires_iff.2 silence), expirePeer, if_pos (timerExpires_iff.2 silence)]
    exact ⟨losePeer p s, exec_raised rfl hr expires, losePeer_lost p s⟩
  · rintro p r rfl pause silence
    have expires : pauseExpires p s = losePeer p s := by
      rw [pauseExpires, if_pos (timerExpires_iff.2 pause), expirePeer, if_pos (timerExpires_iff.2 silence)]
    exact ⟨losePeer p s, exec_raised rfl hr expires, losePeer_lost p s⟩
  · rintro p r rfl pause silence paused
    have expires : pauseExpires p s = resumePeer p .expiry s := by
      rw [pauseExpires, if_pos (timerExpires_iff.2 pause), expirePeer, if_neg (Bool.eq_false_iff.1 (notExpires silence)),
        if_pos (timerExpires_iff.2 pause)]
    exact ⟨resumePeer p .expiry s, exec_raised rfl hr expires, resumePeer_resumed paused .expiry⟩

/-! ### Events that are not raised (log entry 6) -/

/-- Settles O4, event by event: its condition fails, so it does nothing. -/
theorem eventNotRaisedChangesNothing : Obligations.EventNotRaisedChangesNothing := by
  intro s
  refine ⟨fun reset value stop => ?_, fun h => exec_unchanged rfl (startBitBegins_other h),
    fun h => exec_unchanged rfl (holdingEnds_other h), fun h => exec_unchanged rfl (receiverArms_other h),
    fun h => ⟨exec_unchanged rfl (startBitRejected_other h),
      fun value stop => exec_unchanged rfl (characterCompletes_other h value stop)⟩, ?timers,
    fun k h => ⟨exec_idleNotRaised rfl h, exec_idleNotRaised rfl h⟩,
    fun h => exec_idleNotRaised rfl (h.imp_right fun h => h.imp_right .inl),
    fun h => exec_idleNotRaised rfl (h.imp_right fun h => h.imp_right .inl),
    fun h => exec_idleNotRaised rfl (h.imp_right fun h => h.imp_right .inl), ?transmitter⟩
  · exact ⟨exec_inReset rfl reset, exec_inReset rfl reset, exec_inReset rfl reset, exec_inReset rfl reset,
      exec_inReset rfl reset, exec_inReset rfl reset, exec_inReset rfl reset, exec_inReset rfl reset,
      exec_inReset rfl reset, exec_inReset rfl reset, exec_inReset rfl reset, exec_inReset rfl reset,
      exec_inReset rfl reset, fun p => ⟨exec_inReset rfl reset, exec_inReset rfl reset⟩⟩
  case timers =>
    intro goesOn
    have not : ∀ {timer}, goesOn timer → ¬ timerExpires timer = true := fun h => by
      simp [timerExpires_eq_false.2 h]
    refine ⟨fun p h => exec_unchanged rfl ?_, fun p h => exec_unchanged rfl ?_, fun h => exec_unchanged rfl ?_,
      fun h => exec_unchanged rfl ?_, fun h => exec_unchanged rfl ?_⟩
    · rw [silenceExpires, if_neg (not h)]
    · rw [pauseExpires, if_neg (not h)]
    · rw [beaconTimerEnds, if_neg (not h)]
    · rw [refreshTimerEnds, if_neg (not h)]
    · rw [deliveryTimerEnds, if_neg (not h)]
  case transmitter =>
    intro cut opened
    refine ⟨fun h => exec_unchanged rfl ?_, fun h => exec_unchanged rfl (lastStopBitEnds_other h),
      fun h => exec_unchanged rfl (ldeReleases_other h), fun h => exec_unchanged rfl (echoLossFound_other h)⟩
    by_cases hc : cut
    · rw [startBitDue_cut hc]
      refine lastStopBitEnds_other (.inl ?_)
      rcases h with h | h | ⟨-, h⟩ | ⟨h, -⟩
      · simp [h]
      · simp [h]
      · exact h
      · exact absurd hc h
    · rw [startBitDue_uncut hc]
      refine sendCharacter_other ?_
      rcases h with h | h | ⟨h, -⟩ | ⟨-, h⟩
      · simp [h]
      · simp [h]
      · exact absurd h hc
      · exact h.imp_right fun h => h.imp_right .inl

end Sys2Proof.Machine

/-! PROOFS. The idle-time events (R21): the gap, the reply's start, the listening round, and the slot openings. -/

namespace Sys2Proof.Machine

variable {s t : State} {k : Nat}

/-! ### The state at an idle time (R16, R21) -/

@[simp] theorem atIdleTime_frame (k : Nat) (s : State) : (atIdleTime k s).pins = s.pins ∧ (atIdleTime k s).frx = s.frx ∧
    (atIdleTime k s).lastSender = s.lastSender ∧ (atIdleTime k s).txq = s.txq ∧ (atIdleTime k s).rpu = s.rpu ∧
    (atIdleTime k s).ptb = s.ptb ∧ (atIdleTime k s).rxp = s.rxp ∧ (atIdleTime k s).cgm = s.cgm ∧
    (atIdleTime k s).stc = s.stc ∧ (atIdleTime k s).hpt = s.hpt ∧ (atIdleTime k s).notices = s.notices ∧
    (atIdleTime k s).counters = s.counters ∧ (atIdleTime k s).choices = s.choices ∧
    (atIdleTime k s).pending = s.pending := by
  unfold atIdleTime
  split <;> simp [atBoundary]

@[simp] theorem atIdleTime_line (k : Nat) (s : State) : (atIdleTime k s).lif.idle = k ∧
    (atIdleTime k s).lif.idleCounting = s.lif.idleCounting ∧ (atIdleTime k s).lif.transmitter = s.lif.transmitter ∧
    (atIdleTime k s).lif.own = s.lif.own := by
  unfold atIdleTime
  split <;> simp [atBoundary]

/-! ### The gap limit (R10, R12) -/

theorem receiveGap_awaitSync (h : s.frx = .awaitSync) : receiveGap s = s := by
  simp [receiveGap, h]

theorem receiveGap_draining (h : s.frx = .draining) : receiveGap s = { s with frx := .awaitSync } := by
  simp [receiveGap, h, setReceiver]

theorem receiveGap_ownMarked {a : Assembly} (h : s.frx = .inFrame a) (own : a.ownMark = true) :
    receiveGap s = { s with frx := .awaitSync } := by
  simp [receiveGap, h, setReceiver, failFrame, own]

theorem receiveGap_truncated {a : Assembly} (h : s.frx = .inFrame a) (own : a.ownMark = false) :
    receiveGap s = handBad .truncated { s with frx := .awaitSync } := by
  simp [receiveGap, h, setReceiver, failFrame, own]

/-! ### The start of a reply (R82) -/

theorem replyStarts_none (h : s.rpu.pending = none ∨ ∃ r, s.rpu.pending = some r ∧ r.sending = true) :
    replyStarts s = s := by
  rcases h with h | ⟨r, h, sending⟩
  · simp [replyStarts, h]
  · simp [replyStarts, h, sending]

theorem replyStarts_decided {r : PendingReply} (h : s.rpu.pending = some r) (decided : r.sending = false) :
    replyStarts s = sendReply r s := by
  simp [replyStarts, h, decided]

theorem receives_iff : receives s = true ↔ s.stc.station ≠ .unjoined ∧ s.stc.station ≠ .halted := by
  unfold receives
  cases s.stc.station <;> simp

theorem requestTaken_iff : requestTaken s = true ↔ s.lif.transmitter = .off ∧ s.lif.own = none := by
  simp [requestTaken]

theorem replyResult_modifier (r : ReplyResult) :
    r.modifier = if r = .taken then 1 else if r = .duplicate then 2 else 3 := by
  cases r <;> rfl

theorem sendReply_taken {r : PendingReply} (station : s.stc.station ≠ .unjoined ∧ s.stc.station ≠ .halted)
    (free : s.lif.transmitter = .off ∧ s.lif.own = none) : sendReply r s = { s with
      lif := requested (frameBytes .ack (if r.result = .taken then 1 else if r.result = .duplicate then 2 else 3) r.dest
        (byteOf s.stc.config.ownNumber) r.seq []) .ack false .replyUnit s.lif,
      rpu := { s.rpu with pending := some { r with sending := true } },
      counters := if r.result = .full then { s.counters with fullSent := oneMore s.counters.fullSent }
        else s.counters } := by
  rw [sendReply, if_pos (by rw [receives_iff.2 station, requestTaken_iff.2 free]; rfl), ackBytes, replyResult_modifier]
  rfl

theorem sendReply_dropped {r : PendingReply} (h : s.stc.station = .unjoined ∨ s.stc.station = .halted ∨
    s.lif.transmitter ≠ .off ∨ s.lif.own ≠ none) :
    sendReply r s = { s with rpu := { s.rpu with pending := none } } := by
  have not : ¬ (receives s && requestTaken s) = true := by
    rw [Bool.and_eq_true, receives_iff, requestTaken_iff]
    tauto
  rw [sendReply, if_neg not]

/-! ### The listening round (R151, R152) -/

theorem listeningAtIdle_ends {round : Nat} (listening : s.stc.station = .listening)
    (present : s.stc.listeningRound = some round) (past : round ≤ s.lif.idle) : listeningAtIdle s = { s with
      stc := { s.stc with station := .announcing, listeningRound := none }, txq := { s.txq with beacon := .joining } } := by
  unfold listeningAtIdle
  rw [listening, present]
  exact if_pos past

theorem listeningAtIdle_goesOn (h : s.stc.station ≠ .listening ∨ ∃ round, s.stc.listeningRound = some round ∧
    s.lif.idle < round) : listeningAtIdle s = s := by
  unfold listeningAtIdle
  split
  case h_1 round listening present =>
    rcases h with h | ⟨round', present', below⟩
    · exact absurd listening h
    · cases present.symm.trans present'
      exact if_neg (by omega)
  case h_2 => rfl

/-- Settles O35: each idle-time event at its recipient. -/
theorem idleEventsAct : Obligations.IdleEventsAct := by
  intro s hr counting
  have reached : ∀ {k}, 1 ≤ k → s.lif.idle ≤ k → idleReaches k s = true := fun positive below =>
    idleReaches_iff.2 ⟨hr, counting, positive, below⟩
  refine ⟨fun below => ⟨fun sync => ?_, fun draining => ?_, fun a frame own => ?_, fun a frame own quiet => ?_⟩,
    fun quiet positive below => ?_, fun below => ⟨fun h => ?_, fun r present decided => ⟨fun joined live off free => ?_, fun h => ?_⟩⟩,
    fun k positive below => ⟨fun round listening present past => ?_, fun h => ?_⟩⟩
  · exact exec_idleRaised rfl (reached (by decide) below) (receiveGap_awaitSync (by simp [sync]))
  · exact exec_idleRaised rfl (reached (by decide) below) (receiveGap_draining (by simp [draining]))
  · exact exec_idleRaised rfl (reached (by decide) below) (receiveGap_ownMarked (by simp [frame]) own)
  · refine exec_idleRaised rfl (reached (by decide) below) ?_
    rw [receiveGap_truncated (a := a) (by simp [frame]) own, handBad_quiet _ (by simp [quiet])]
    simp [senderLost, replyKept, Counters.countBad, countUp_eq, Config.gapEvent]
  · exact exec_idleRaised rfl (reached positive below) (by simp [windowEnds, quiet])
  · exact exec_idleRaised rfl (reached (by decide) below) (replyStarts_none (by simpa using h))
  · refine exec_idleRaised rfl (reached (by decide) below) ?_
    rw [replyStarts_decided (r := r) (by simp [present]) decided,
      sendReply_taken (by simp [joined, live]) (by simp [off, free])]
    simp [Config.replyEvent]
  · refine exec_idleRaised rfl (reached (by decide) below) ?_
    rw [replyStarts_decided (r := r) (by simp [present]) decided, sendReply_dropped (by simpa using h)]
    simp [Config.replyEvent]
  · refine exec_idleRaised rfl (reached positive below) ?_
    rw [listeningAtIdle_ends (round := round) (by simp [listening]) (by simp [present]) (by simp [past])]
    simp
  · exact exec_idleRaised rfl (reached positive below) (listeningAtIdle_goesOn (by simpa using h))

/-! ### The schedule of slot openings (R37, R38) -/

/-- The own position, for any schedule of at least one station (R37). -/
theorem ladderPosition_iff {c : ConfigRecord} {last : Option Nat} {p : Nat} (size : 1 ≤ c.ladderSize) :
    p = ladderPosition c last ↔ (last = none → p = c.ownNumber) ∧
      ∀ n, last = some n → (p : Int) = ((c.ownNumber : Int) - (n : Int) - 1) % (c.ladderSize : Int) := by
  cases last with
  | none => simp [ladderPosition]
  | some n =>
    have positive := Int.emod_nonneg ((c.ownNumber : Int) - n - 1) (b := (c.ladderSize : Int)) (by omega)
    simp only [ladderPosition, reduceCtorEq, false_implies, true_and, Option.some.injEq, forall_eq']
    omega

theorem isSlotOpening_iff {c : ConfigRecord} {last : Option Nat} {k : Nat} : isSlotOpening c last k = true ↔
    ∃ m, k = c.replyWindow + 4 + ladderPosition c last * c.slotWidth + m * (c.ladderSize * c.slotWidth) := by
  unfold isSlotOpening
  dsimp only
  rw [Bool.and_eq_true, decide_eq_true_eq, decide_eq_true_eq]
  unfold ladderBase
  constructor
  · rintro ⟨first, multiple⟩
    obtain ⟨m, hm⟩ := Nat.dvd_of_mod_eq_zero multiple
    exact ⟨m, by rw [Nat.mul_comm m]; omega⟩
  · rintro ⟨m, rfl⟩
    exact ⟨Nat.le_add_right _ _, by rw [Nat.add_sub_cancel_left, Nat.mul_mod_left]⟩

/-! ### A slot opening (R40 to R43, R58 to R60) -/

theorem ladderAtIdle_on (on : isSlotOpening s.stc.config s.lastSender s.lif.idle = true) :
    ladderAtIdle s = slotOpens s := if_pos on

theorem exec_slotOpening_on (reached : idleReaches k s = true)
    (on : isSlotOpening s.stc.config s.lastSender k = true) (ht : slotOpens (atIdleTime k s) = t) :
    exec (.slotOpening k) s = .next (settleAttn t) := by
  refine exec_idleRaised rfl reached ?_
  rw [ladderAtIdle_on (by simpa using on), ht]

theorem requestFrame_free {c : CurrentFrame} (free : s.lif.transmitter = .off ∧ s.lif.own = none) :
    requestFrame c s = chosenTaken c (setLine (requested (chosenBytes s c) (chosenKind c) (chosenJoining c)
      .transmitQueue s.lif) s) := if_pos (requestTaken_iff.2 free)

theorem requestFrame_busy {c : CurrentFrame} (busy : s.lif.transmitter ≠ .off ∨ s.lif.own ≠ none) :
    requestFrame c s = s := by
  refine if_neg ?_
  rw [requestTaken_iff]
  tauto

theorem slotOpens_some {c : CurrentFrame} (chosen : chooseFrame s = some c) : slotOpens s = requestFrame c s := by
  simp [slotOpens, chosen]

theorem slotOpens_none (chosen : chooseFrame s = none) : slotOpens s = s := by
  simp [slotOpens, chosen]

theorem slotOpens_busy (busy : s.lif.transmitter ≠ .off ∨ s.lif.own ≠ none) : slotOpens s = s := by
  unfold slotOpens
  split
  · exact requestFrame_busy busy
  · rfl

/-- An announcement or a beacon at a slot opening, with the driver free (R60). -/
theorem slotOpens_sends {c : CurrentFrame} (chosen : chooseFrame s = some c) (notEntry : ∀ h, c ≠ .entry h)
    (free : s.lif.transmitter = .off ∧ s.lif.own = none) : slotOpens s = { s with
      lif := requested (chosenBytes s c) (chosenKind c) (chosenJoining c) .transmitQueue s.lif,
      txq := { s.txq with current := some c } } := by
  rw [slotOpens_some chosen, requestFrame_free free]
  cases c with
  | entry h => exact absurd rfl (notEntry h)
  | announcement a => rfl
  | beacon joining => rfl

theorem chooseFrame_elsewhere (h : s.txq.current ≠ none ∨ (s.stc.station ≠ .active ∧ s.stc.station ≠ .announcing)) :
    chooseFrame s = none := by
  unfold chooseFrame
  rcases h with h | ⟨active, announcing⟩
  · rw [if_pos (by simpa [Option.isSome_iff_ne_none] using h)]
  · split
    · rfl
    · cases hs : s.stc.station <;> simp_all

/-- Settles O36: the schedule, then the frame that `chooseFrame` gives, or none. -/
theorem slotGivesAnnouncementOrBeacon : Obligations.SlotGivesAnnouncementOrBeacon := by
  constructor
  · intro c last k size width
    rw [isSlotOpening_iff]
    constructor
    · rintro ⟨m, hm⟩
      obtain ⟨unknown, known⟩ := (ladderPosition_iff size).1 (rfl : ladderPosition c last = _)
      exact ⟨m, _, unknown, known, hm⟩
    · rintro ⟨m, p, unknown, known, hm⟩
      rw [(ladderPosition_iff size).2 ⟨unknown, known⟩] at hm
      exact ⟨m, hm⟩
  · intro s k hr counting positive below send
    have reached : idleReaches k s = true := idleReaches_iff.2 ⟨hr, counting, positive, below⟩
    constructor
    · intro on off absent current
      have sends : ∀ (c : CurrentFrame) (modifier : Nat), chooseFrame (atIdleTime k s) = some c → (∀ h, c ≠ .entry h) →
          chosenBytes (atIdleTime k s) c =
            frameBytes (chosenKind c) modifier 255 (ownByte (atIdleTime k s)) 0 [] →
          exec (.slotOpening k) s = .next (settleAttn (send (chosenKind c) modifier (chosenJoining c) c)) := by
        intro c modifier chosen notEntry hbytes
        refine exec_slotOpening_on reached on ?_
        rw [slotOpens_sends chosen notEntry (by simp [off, absent]), hbytes]
        simp [send, ownByte]
      refine ⟨fun active pause => ?_, fun active resume => ?_, fun active nothing plain => ?_,
        fun announcing joining => ?_, fun announcing notJoining => ?_⟩
      · exact sends (.announcement .pause) 0 (by simp [chooseFrame, current, active, pause]) (by simp) rfl
      · exact sends (.announcement .resume) 0 (by simp [chooseFrame, current, active, resume]) (by simp) rfl
      · exact sends (.beacon false) 0 (by simp [chooseFrame, current, active, nothing, plain]) (by simp) rfl
      · exact sends (.beacon true) 1 (by simp [chooseFrame, current, announcing, joining]) (by simp) rfl
      · exact exec_slotOpening_on reached on
          (slotOpens_none (by simp [chooseFrame, current, announcing, notJoining]))
    · intro passes
      refine exec_idleRaised rfl reached ?_
      unfold ladderAtIdle
      split
      case isFalse => rfl
      case isTrue on =>
        rcases passes with off | busy | busy | current | elsewhere
        · rw [show isSlotOpening s.stc.config s.lastSender k = true by simpa using on] at off
          cases off
        · exact slotOpens_busy (by simp [busy])
        · exact slotOpens_busy (by simp [busy])
        · exact slotOpens_none (chooseFrame_elsewhere (by simp [current]))
        · exact slotOpens_none (chooseFrame_elsewhere (by simp [elsewhere]))

/-! ### The oldest entry (R53, R58, R60) -/

theorem isCandidate_iff {h : Fin 16} : isCandidate s.txq h = true ↔ ∃ e, Choosable s h e := by
  unfold isCandidate Choosable
  cases he : s.txq.entries[h] with
  | none => simp
  | some e =>
    have older : hasOlder s.txq e = false ↔ ∀ (h' : Fin 16) (e' : Entry), s.txq.entries[h'] = some e' →
        e'.state.isComplete = false → e'.dest = e.dest → ageOf s e' ≤ ageOf s e := by
      unfold hasOlder
      rw [List.any_eq_false]
      refine ⟨fun none h' e' he' live dest => ?_, fun all h' _ => ?_⟩
      · have := none h' (mem_allHandles h')
        rw [he'] at this
        simpa [EntryState.unfinished, live, dest, entryAge_eq] using this
      · cases he' : s.txq.entries[h'] with
        | none => simp
        | some e' =>
          have := all h' e' he'
          simpa [EntryState.unfinished, entryAge_eq] using this
    simp [older]

/-- The fold keeps the older handle: what it gives is no younger than the first or any of the list. -/
theorem olderHandle_fold_oldest (q : TransmitQueue) (hs : List (Fin 16)) (best : Option (Fin 16)) :
    (hs.foldl (olderHandle q) best = none → best = none ∧ hs = []) ∧
    ∀ h, hs.foldl (olderHandle q) best = some h →
      (∀ b, best = some b → handleAge q b ≤ handleAge q h) ∧ ∀ h' ∈ hs, handleAge q h' ≤ handleAge q h := by
  induction hs generalizing best with
  | nil => simp +contextual
  | cons k hs ih =>
    obtain ⟨some, older, notYounger, bound⟩ : ∃ b, olderHandle q best k = .some b ∧ handleAge q k ≤ handleAge q b ∧
        ∀ b', best = .some b' → handleAge q b' ≤ handleAge q b := by
      unfold olderHandle
      cases best with
      | none => simp
      | some b =>
        dsimp only
        split
        · exact ⟨k, rfl, le_refl _, fun b' hb => by cases hb; omega⟩
        · exact ⟨b, rfl, by omega, fun b' hb => by cases hb; omega⟩
    obtain ⟨empty, oldest⟩ := ih (olderHandle q best k)
    refine ⟨fun h => ?_, fun h hh => ?_⟩
    · exact absurd (older.symm.trans (empty h).1) (by simp)
    · obtain ⟨first, rest⟩ := oldest h hh
      have top := first some older
      refine ⟨fun b hb => le_trans (bound b hb) top, fun h' hm => ?_⟩
      rcases List.mem_cons.1 hm with rfl | hm
      · exact le_trans notYounger top
      · exact rest h' hm

theorem oldestCandidate_none (h : oldestCandidate s.txq = none) : ∀ h e, ¬ Choosable s h e := by
  intro k e choosable
  have empty := ((olderHandle_fold_oldest s.txq _ none).1 h).2
  have mem : k ∈ allHandles.filter (isCandidate s.txq) :=
    List.mem_filter.2 ⟨mem_allHandles k, isCandidate_iff.2 ⟨e, choosable⟩⟩
  simp [empty] at mem

theorem oldestCandidate_some {h : Fin 16} (ho : oldestCandidate s.txq = some h) : ∃ e, Choosable s h e ∧
    ∀ h' e', Choosable s h' e' → ageOf s e' ≤ ageOf s e := by
  obtain ⟨e, choosable⟩ := isCandidate_iff.1 (oldestCandidate_isCandidate ho)
  refine ⟨e, choosable, fun h' e' other => ?_⟩
  have bound := ((olderHandle_fold_oldest s.txq _ none).2 h ho).2 h'
    (List.mem_filter.2 ⟨mem_allHandles h', isCandidate_iff.2 ⟨e', other⟩⟩)
  rwa [handleAge_eq choosable.1, handleAge_eq other.1] at bound

theorem chooseFrame_oldest (current : s.txq.current = none) (active : s.stc.station = .active)
    (nothing : s.cgm.announcement = none) (noBeacon : s.txq.beacon ≠ .plain) :
    chooseFrame s = (oldestCandidate s.txq).map CurrentFrame.entry := by
  simp [chooseFrame, current, active, nothing, noBeacon]

/-- The entry of handle `h` on the line with sequence `q`, its frame requested (R60). -/
def entrySent (h : Fin 16) (e : Entry) (q : Byte) (s : State) : State :=
  { s with
    lif := requested (frameBytes .data 0 e.dest (byteOf s.stc.config.ownNumber) q e.payload) .data false .transmitQueue
      s.lif,
    txq := { setSlot h (some { e with state := .onLine, seq := some q }) s.txq with current := some (.entry h) } }

/-- An entry's frame requested: the entry is ON_LINE, and the counter that gave its sequence moves on (R60). -/
theorem requestFrame_entry {h : Fin 16} {e : Entry} (he : s.txq.entries[h] = some e)
    (free : s.lif.transmitter = .off ∧ s.lif.own = none) :
    (∀ q, e.seq = some q → requestFrame (.entry h) s = entrySent h e q s) ∧
    (∀ p : Fin 32, e.seq = none → e.dest = byteOf p.val → requestFrame (.entry h) s =
      { entrySent h e s.ptb.records[p].nextSeq s with
        ptb := setRecord p { s.ptb.records[p] with nextSeq := s.ptb.records[p].nextSeq + 1 } s.ptb }) ∧
    (e.seq = none → e.dest = 255 → requestFrame (.entry h) s = { entrySent h e s.txq.broadcastSeq s with
      txq := { (entrySent h e s.txq.broadcastSeq s).txq with broadcastSeq := s.txq.broadcastSeq + 1 } }) := by
  rw [requestFrame_free free]
  refine ⟨fun q hq => ?_, fun p hq hd => ?_, fun hq hd => ?_⟩
  · simp [chosenTaken, chosenBytes, he, entrySequence, advanceSequence, hq, entrySent, setEntry, setLine, setCurrent,
      setSlot, chosenKind, chosenJoining, ownByte]
  · simp [chosenTaken, chosenBytes, he, entrySequence, advanceSequence, hq, hd, entrySent, setEntry, setLine, setCurrent,
      setSlot, setRecord, chosenKind, chosenJoining, ownByte]
  · have noRecord : recordOf 255#8 = none := rfl
    simp [chosenTaken, chosenBytes, he, entrySequence, advanceSequence, hq, hd, noRecord, entrySent,
      setEntry, setLine, setCurrent, setSlot, chosenKind, chosenJoining, ownByte]

/-- Settles O37: the choice by `oldestCandidate`, then the entry's frame. -/
theorem slotGivesOldestEntry : Obligations.SlotGivesOldestEntry := by
  intro s k hr counting positive below on off absent current active nothing noBeacon
  have reached : idleReaches k s = true := idleReaches_iff.2 ⟨hr, counting, positive, below⟩
  have chosen : chooseFrame (atIdleTime k s) = (oldestCandidate s.txq).map CurrentFrame.entry := by
    rw [chooseFrame_oldest (by simp [current]) (by simp [active]) (by simp [nothing]) (by simp [noBeacon])]
    simp
  cases ho : oldestCandidate s.txq with
  | none =>
    rw [ho] at chosen
    refine ⟨fun _ => exec_slotOpening_on reached on (slotOpens_none chosen), ?_⟩
    rintro ⟨h, e, choosable⟩
    exact absurd choosable (oldestCandidate_none ho h e)
  | some h =>
    rw [ho] at chosen
    obtain ⟨e, choosable, oldest⟩ := oldestCandidate_some ho
    refine ⟨fun none => absurd choosable (none h e), fun _ => ⟨h, e, choosable, oldest, ?_⟩⟩
    have entry : (atIdleTime k s).txq.entries[h] = some e := by simpa using choosable.1
    obtain ⟨kept, fresh, broadcast⟩ := requestFrame_entry entry (by simp [off, absent])
    have sends : ∀ {t}, requestFrame (.entry h) (atIdleTime k s) = t →
        exec (.slotOpening k) s = .next (settleAttn t) := fun ht =>
      exec_slotOpening_on reached on ((slotOpens_some chosen).trans ht)
    refine ⟨fun q hq => sends ?_, fun p hq hd => sends ?_, fun hq hd => sends ?_⟩
    · rw [kept q hq]
      simp [entrySent]
    · rw [fresh p hq hd]
      simp [entrySent]
    · rw [broadcast hq hd]
      simp [entrySent]

end Sys2Proof.Machine

/-! PROOFS. A complete character at the Frame Receiver (R8 to R15), and the claims of a good frame on last sender, the peer
record and the notices (R31, R33, R99 to R106, R150). -/

namespace Sys2Proof.Machine

variable {s t : State} {f : GoodFrame} {value : Byte} {stop lde : Bool} {a : Assembly}

/-! ### The Frame Receiver, by assembly state (R8 to R13) -/

theorem joined_eq_false : joined s = false ↔ s.stc.station = .unjoined := by simp [joined]

theorem takeSync_lead (value_lead : value = 0xA6) (good : stop = true) (s : State) : takeSync value stop lde s = { s with
    frx := .inFrame (newAssembly lde),
    rpu := if lde = true then s.rpu
      else { pending := replyKept s, wait := s.rpu.wait.map fun w => { w with candidate := true } } } := by
  subst value_lead good
  cases lde with
  | true => simp [takeSync, Config.lead, setReceiver]
  | false =>
    simp only [takeSync, Config.lead, decide_true, Bool.and_true, if_true, Bool.false_eq_true, if_false, handLead,
      abandonReply_eq, waitLead, setReceiver]
    cases s.rpu.wait <;> simp [replyKept]

theorem takeSync_noise (h : value ≠ 0xA6 ∨ stop = false) (s : State) : takeSync value stop lde s = handNoise s := by
  refine if_neg ?_
  rw [Bool.and_eq_true, decide_eq_true_eq]
  rintro ⟨lead, good⟩
  rcases h with h | h
  · exact h lead
  · simp [h] at good

theorem failFrame_ownMarked (own : a.ownMark = true) (cause : BadCause) (next : FrameReceiver) (s : State) :
    failFrame a cause next s = { s with frx := next } := by
  simp [failFrame, own, setReceiver]

theorem failFrame_handed (other : a.ownMark = false) (cause : BadCause) (next : FrameReceiver) (s : State) :
    failFrame a cause next s = handBad cause { s with frx := next } := by
  simp [failFrame, other, setReceiver]

theorem takeInFrame_fails {cause : BadCause}
    (h : takeCharacter a value stop = .fails cause ∨ takeCharacter a value stop = .failsAtEnd cause) (s : State) :
    takeInFrame a value stop s =
      failFrame a cause (if takeCharacter a value stop = .fails cause then .draining else .awaitSync) s := by
  rcases h with h | h <;> simp [takeInFrame, h]

theorem receiveCharacter_inFrame (h : s.frx = .inFrame a) : receiveCharacter value stop lde s = takeInFrame a value stop s := by
  simp [receiveCharacter, h]

theorem goodFrameOf_source (h : goodFrameOf a = some f) : a.source = some f.source := by
  unfold goodFrameOf at h
  split at h
  · obtain ⟨kind, -, rfl⟩ := Option.map_eq_some_iff.1 h
    assumption
  · cases h

theorem passFrame_some (h : goodFrameOf a = some f) (s : State) :
    passFrame a s = handPassed a f { s with frx := .awaitSync } := by
  simp [passFrame, h, setReceiver]

/-- An own-marked frame that passes gives no result, unless it survived a collision and is the own number's (R13, R50). -/
theorem passFrame_dropped (own : a.ownMark = true)
    (h : a.collided = false ∨ s.stc.station = .unjoined ∨ a.source ≠ some (byteOf s.stc.config.ownNumber)) :
    passFrame a s = { s with frx := .awaitSync } := by
  cases hf : goodFrameOf a with
  | none => simp [passFrame, hf, setReceiver]
  | some f =>
    rw [passFrame_some hf, handPassed, if_pos own]
    split
    case isFalse => rfl
    case isTrue collided =>
      have source := goodFrameOf_source hf
      refine if_neg ?_
      rw [Bool.and_eq_true, Bool.and_eq_true, decide_eq_true_eq]
      rintro ⟨⟨joined, number⟩, -⟩
      rcases h with h | h | h
      · simp [collided] at h
      · simp [Machine.joined, h] at joined
      · exact h (source.trans (congrArg some number))

/-- Settles O25: the character by the state of the Frame Receiver. -/
theorem characterAtFrameReceiver : Obligations.CharacterAtFrameReceiver := by
  intro s value stop lde d hr quiet receiving
  have step := characterComplete_notComparing (value := value) (stop := stop) hr quiet receiving
  refine ⟨fun sync => ⟨fun lead good => ?_, fun noise waits => ?_⟩,
    fun a frame => ⟨fun a' goesOn => ?_, fun cause fails own => ?_, fun cause fails other noWait => ?_,
      fun passes own dropped => ?_⟩, fun draining => ?_, rfl, rfl, rfl, rfl, rfl, rfl⟩
  · rw [step, receiveCharacter, show (characterHeard stop s).frx = .awaitSync from sync]
    dsimp only
    rw [takeSync_lead lead good]
    rfl
  · rw [step, receiveCharacter, show (characterHeard stop s).frx = .awaitSync from sync]
    dsimp only
    rw [takeSync_noise noise, handNoise_quiet (s := characterHeard stop s) waits]
    rfl
  · rw [step, receiveCharacter_inFrame (show (characterHeard stop s).frx = _ from frame), takeInFrame, goesOn]
    rfl
  · rw [step, receiveCharacter_inFrame (show (characterHeard stop s).frx = _ from frame), takeInFrame_fails fails,
      failFrame_ownMarked own]
  · rw [step, receiveCharacter_inFrame (show (characterHeard stop s).frx = _ from frame), takeInFrame_fails fails,
      failFrame_handed other, handBad_quiet cause (s := { characterHeard stop s with frx := _ }) noWait]
    rfl
  · rw [step, receiveCharacter_inFrame (show (characterHeard stop s).frx = _ from frame), takeInFrame, passes]
    dsimp only
    rw [passFrame_dropped (s := characterHeard stop s) own dropped]
  · rw [step, receiveCharacter, show (characterHeard stop s).frx = .draining from draining]

/-! ### A good frame handed on (R11, R15) -/

/-- The state `s` with a good frame taken and counted (R11, R175). -/
def heardGood (s : State) : State :=
  { s with frx := .awaitSync, counters := { s.counters with goodFrames := oneMore s.counters.goodFrames } }

theorem exec_passes {d : Nat} (hr : running s = true) (quiet : NotComparing s.lif)
    (receiving : s.lif.receiver = .inCharacter lde d) (frame : s.frx = .inFrame a)
    (passes : takeCharacter a value true = .passes) (fields : goodFrameOf a = some f) :
    exec (.characterComplete value true) s =
      .next (settleAttn (handPassed a f { characterHeard true s with frx := .awaitSync })) := by
  rw [characterComplete_notComparing hr quiet receiving,
    receiveCharacter_inFrame (show (characterHeard true s).frx = _ from frame), takeInFrame, passes]
  dsimp only
  rw [passFrame_some fields]

theorem exec_goodFrame (h : EndsGoodFrame value f s) : exec (.characterComplete value true) s =
    .next (settleAttn (handGood f { characterHeard true s with frx := .awaitSync })) := by
  obtain ⟨hr, quiet, ⟨lde, d, receiving⟩, a, frame, other, passes, fields⟩ := h
  rw [exec_passes hr quiet receiving frame passes fields, handPassed, if_neg (by simp [other])]

theorem exec_goodFrame_clash (h : EndsGoodFrame value f s) (joins : s.stc.station ≠ .unjoined)
    (own : f.source = byteOf s.stc.config.ownNumber) :
    exec (.characterComplete value true) s = .next (settleAttn (handClash f (heardGood (characterHeard true s)))) := by
  rw [exec_goodFrame h, handGood]
  refine congrArg (fun u => Host.Outcome.next (settleAttn u)) (if_pos ?_)
  rw [Bool.and_eq_true, decide_eq_true_eq]
  exact ⟨joined_iff.2 joins, own⟩

theorem exec_goodFrame_others (h : EndsGoodFrame value f s)
    (other : s.stc.station = .unjoined ∨ f.source ≠ byteOf s.stc.config.ownNumber) :
    exec (.characterComplete value true) s = .next (settleAttn (handOthers f (heardGood (characterHeard true s)))) := by
  rw [exec_goodFrame h, handGood]
  refine congrArg (fun u => Host.Outcome.next (settleAttn u)) (if_neg ?_)
  rw [Bool.and_eq_true, decide_eq_true_eq]
  rintro ⟨joins, own⟩
  rcases other with h | h
  · exact joined_iff.1 joins h
  · exact h own

theorem afterWait_quiet (h : s.rpu.wait = none) (t : State) : afterWait s t = t := by
  simp [afterWait, h]

theorem waitGood_quiet (h : s.rpu.wait = none) : waitGood f s = s := by
  simp [waitGood, h]

/-! ### Claims on last sender and presence (R31, R33, R99, R150) -/

/-- The presence claim of a good frame alone (R99). -/
def presenceClaim (f : GoodFrame) (s : State) : State :=
  match recordOf f.source with
  | some p => if claimsTaken s p then refreshPresence p s else s
  | none => s

/-- The claims of a good frame that is no PAUSE, RESUME or joining BEACON, ahead of the Reply Unit (R15, R31, R99). -/
def sourceClaims (f : GoodFrame) (s : State) : State := presenceClaim f (ladderFrame f (handMismatch f s))

theorem peerFrame_plain (h : f.kind = .data ∨ f.kind = .ack ∨ (f.kind = .beacon ∧ f.modifier ≠ 1)) (s : State) :
    peerFrame f s = presenceClaim f s := by
  have none : ∀ (p : Fin 32) (u : State), kindClaims p f u = u := by
    intro p u
    rcases h with h | h | ⟨h, modifier⟩ <;> simp [kindClaims, *]
  unfold peerFrame presenceClaim
  cases recordOf f.source with
  | none => rfl
  | some p => simp only [none]

theorem claimsTaken_iff {p : Fin 32} : claimsTaken s p = true ↔ s.stc.station ≠ .unjoined ∧
    p.val < s.stc.config.ladderSize ∧ p.val ≠ s.stc.config.ownNumber := by
  simp only [claimsTaken, recordInUse, Bool.and_eq_true, joined_iff, decide_eq_true_eq]

theorem peerFrame_untaken (h : ∀ p : Fin 32, f.source = byteOf p.val → claimsTaken s p = false) :
    peerFrame f s = s ∧ presenceClaim f s = s := by
  unfold peerFrame presenceClaim
  cases hp : recordOf f.source with
  | none => exact ⟨rfl, rfl⟩
  | some p => simp [h p (recordOf_eq_some.1 hp)]

theorem presenceClaim_taken {p : Fin 32} (source : f.source = byteOf p.val) (taken : claimsTaken s p = true) :
    presenceClaim f s = refreshPresence p s := by
  simp [presenceClaim, source, taken]

theorem ladderHeard_eq (joins : s.stc.station ≠ .unjoined) (n : Nat) : ladderHeard n s = { s with
    lastSender := some n,
    stc := if s.stc.station = .listening then { s.stc with station := .announcing, listeningRound := none } else s.stc,
    txq := if s.stc.station = .listening then { s.txq with beacon := .joining } else s.txq } := by
  rw [ladderHeard, if_pos (joined_iff.2 joins), learned]
  by_cases listening : s.stc.station = .listening <;>
    simp [listening, setLastSender, enterAnnouncing, setBeacon, setStation]

theorem refreshPresence_eq (p : Fin 32) (s : State) : refreshPresence p s = { s with
      ptb := setRecord p { s.ptb.records[p] with present := true, silence := some s.stc.config.presenceTimeout } s.ptb,
      notices := (refreshPresence p s).notices, counters := (refreshPresence p s).counters } ∧
    if s.ptb.records[p].present = true then NothingReported s (refreshPresence p s)
    else NoticeOffered { kind := .peerFound, subject := byteOf p.val, detail := 0 } s (refreshPresence p s) := by
  unfold refreshPresence
  dsimp only
  by_cases present : s.ptb.records[p].present = true
  · rw [if_pos present, if_pos present]
    exact ⟨rfl, rfl, rfl⟩
  · rw [if_neg present, if_neg present, offerNotice_eq]
    exact ⟨rfl, (offerNotice_offered _ _).congr rfl rfl⟩

theorem sourceClaims_unjoined (h : s.stc.station = .unjoined) : sourceClaims f s = s := by
  have joins : joined s = false := joined_eq_false.2 h
  have mismatch : handMismatch f s = s := by simp [handMismatch, mismatches, joins]
  have ladder : ladderFrame f s = s := by simp [ladderFrame, ladderHeard, joins]
  rw [sourceClaims, mismatch, ladder]
  exact (peerFrame_untaken fun p _ => by simp [claimsTaken, joins]).2

theorem handMismatch_below (below : f.source.toNat < s.stc.config.ladderSize) : handMismatch f s = s := by
  refine if_neg ?_
  simp only [mismatches, Bool.and_eq_true, decide_eq_true_eq]
  omega

theorem ladderFrame_below (joins : s.stc.station ≠ .unjoined) (below : f.source.toNat < s.stc.config.ladderSize) :
    ladderFrame f s = { s with
      lastSender := if f.kind = .ack then s.lastSender else some f.source.toNat,
      stc := if f.kind ≠ .ack ∧ s.stc.station = .listening then
          { s.stc with station := .announcing, listeningRound := none } else s.stc,
      txq := if f.kind ≠ .ack ∧ s.stc.station = .listening then { s.txq with beacon := .joining } else s.txq } := by
  by_cases ack : f.kind = .ack
  · simp [ladderFrame, ack]
  · rw [ladderFrame, if_pos (by simp [ack, below]), ladderHeard_eq joins]
    simp [ack]

/-- Learning of a station moves LISTENING to ANNOUNCING, so it keeps the table's claims as they are. -/
theorem ladderFrame_claimsTaken (f : GoodFrame) (s : State) (p : Fin 32) :
    claimsTaken (ladderFrame f s) p = claimsTaken s p := by
  by_cases joins : s.stc.station = .unjoined
  · simp [ladderFrame, ladderHeard, joined_eq_false.2 joins]
  · unfold ladderFrame
    split
    · rw [ladderHeard_eq joins]
      simp only [claimsTaken, joined, recordInUse]
      split <;> simp [joins]
    · rfl

theorem sourceClaims_below {p : Fin 32} (joins : s.stc.station ≠ .unjoined) (source : f.source = byteOf p.val)
    (below : p.val < s.stc.config.ladderSize) (other : p.val ≠ s.stc.config.ownNumber) :
    sourceClaims f s = refreshPresence p (ladderFrame f s) := by
  have number : f.source.toNat = p.val := by
    rw [source]
    exact byteOf_toNat_of_lt (by omega)
  rw [sourceClaims, handMismatch_below (by omega),
    presenceClaim_taken source (by rw [ladderFrame_claimsTaken]; exact claimsTaken_iff.2 ⟨joins, below, other⟩)]

theorem ladderFrame_above (above : s.stc.config.ladderSize ≤ f.source.toNat) : ladderFrame f s = s := by
  refine if_neg ?_
  rw [Bool.and_eq_true, decide_eq_true_eq, decide_eq_true_eq]
  omega

theorem above_untaken (above : s.stc.config.ladderSize ≤ f.source.toNat) (p : Fin 32) (source : f.source = byteOf p.val) :
    claimsTaken s p = false := by
  have number : f.source.toNat = p.val := by
    rw [source]
    exact byteOf_toNat_of_lt (by omega)
  rw [Bool.eq_false_iff, ne_eq, claimsTaken_iff]
  omega

theorem sourceClaims_above (joins : s.stc.station ≠ .unjoined) (above : s.stc.config.ladderSize ≤ f.source.toNat) :
    sourceClaims f s = if f.kind = .ack then s
      else ladderUnknown (offerNotice (sourceNotice .ladderMismatch f) s) := by
  have mismatch : handMismatch f s = if f.kind = .ack then s
      else ladderUnknown (offerNotice (sourceNotice .ladderMismatch f) s) := by
    by_cases ack : f.kind = .ack
    · simp [handMismatch, mismatches, ack]
    · have joined := joined_iff.2 joins
      simp [handMismatch, mismatches, ack, above, joined]
  have size : (handMismatch f s).stc = s.stc := by simp
  rw [sourceClaims, ladderFrame_above (by rwa [size]),
    (peerFrame_untaken fun p source => above_untaken (by rwa [size]) p source).2, mismatch]

/-- The claims of a good frame that is no PAUSE, RESUME or joining BEACON are those of `HeardFrom`. -/
theorem heardFrom_sourceClaims (other : s.stc.station = .unjoined ∨ f.source ≠ byteOf s.stc.config.ownNumber) :
    HeardFrom f s (sourceClaims f (heardGood s)) := by
  unfold HeardFrom
  dsimp only
  split
  case isTrue unjoined => exact sourceClaims_unjoined unjoined
  case isFalse joins =>
    have notOwn : f.source ≠ byteOf s.stc.config.ownNumber := other.resolve_left joins
    split
    case isTrue below =>
      intro p source
      have number : f.source.toNat = p.val := by
        rw [source]
        exact byteOf_toNat_of_lt (by omega)
      have distinct : p.val ≠ s.stc.config.ownNumber := fun h => notOwn (h ▸ source)
      rw [sourceClaims_below (s := heardGood s) joins source (number ▸ below) distinct]
      obtain ⟨state, report⟩ := refreshPresence_eq p (ladderFrame f (heardGood s))
      have ladder := ladderFrame_below (s := heardGood s) joins below
      have timeout : (ladderFrame f (heardGood s)).stc.config.presenceTimeout = s.stc.config.presenceTimeout := by
        rw [ladder]
        dsimp only
        split <;> rfl
      rw [timeout] at state
      rw [ladder, number] at state report ⊢
      refine ⟨?_, ?_⟩
      · rw [state]
        rfl
      · by_cases present : s.ptb.records[p].present = true
        · rw [if_pos present]
          exact (if_pos present).mp report
        · rw [if_neg present]
          exact NoticeOffered.congr ((if_neg present).mp report) rfl rfl
    case isFalse above =>
      rw [sourceClaims_above (s := heardGood s) joins (Nat.le_of_not_lt above)]
      split
      case isTrue ack => exact rfl
      case isFalse notAck =>
        have lost : senderLost (offerNotice (sourceNotice .ladderMismatch f) (heardGood s)) = none := by
          simp [senderLost, heardGood, joins]
        rw [ladderUnknown_eq, lost, offerNotice_eq]
        exact ⟨rfl, (offerNotice_offered _ _).congr rfl rfl⟩

end Sys2Proof.Machine

/-! PROOFS. What each good frame does: claims and clashes (R15, R31, R50), PAUSE and RESUME (R102 to R106), the acceptance
decision (R79, R80) and broadcast admission (R120). -/

namespace Sys2Proof.Machine

variable {s t u v : State} {f : GoodFrame} {value : Byte} {p : Fin 32}

/-! ### Frames that the Reply Unit and the pool leave (R79, R120) -/

theorem isForUs_iff : isForUs f s = true ↔ f.kind = .data ∧ f.dest = byteOf s.stc.config.ownNumber ∧
    f.source ≠ byteOf s.stc.config.ownNumber ∧ receives s = true := by
  simp only [isForUs, Bool.and_eq_true, decide_eq_true_eq, and_assoc]
  rfl

theorem acceptUnicast_other (h : f.kind ≠ .data ∨ f.dest ≠ byteOf s.stc.config.ownNumber ∨ receives s = false) :
    acceptUnicast f s = s := by
  refine if_neg ?_
  rw [isForUs_iff]
  rintro ⟨data, dest, -, live⟩
  rcases h with h | h | h
  · exact h data
  · exact h dest
  · simp [live] at h

theorem admitBroadcast_other (h : f.kind ≠ .data ∨ f.dest ≠ 255 ∨ receives s = false) : admitBroadcast f s = s := by
  refine if_neg ?_
  rw [Bool.and_eq_true, Bool.and_eq_true, decide_eq_true_eq, decide_eq_true_eq]
  rintro ⟨⟨data, dest⟩, live⟩
  rcases h with h | h | h
  · exact h data
  · exact h dest
  · simp [live] at h

theorem receives_unjoined (h : s.stc.station = .unjoined) : receives s = false := by
  simp [receives, h]

/-- A good frame from another station, with no reply wait (R15). -/
theorem handOthers_quiet (quiet : s.rpu.wait = none) : handOthers f s =
    admitBroadcast f (acceptUnicast f (peerFrame f (ladderFrame f (handMismatch f s)))) := by
  have waits : (peerFrame f (ladderFrame f (handMismatch f s))).rpu.wait = none := by simp [quiet]
  rw [handOthers, afterWait_quiet waits, waitGood_quiet waits]

/-- A good frame that makes its claims and nothing else (R15, R31, R99). -/
theorem handOthers_claims (quiet : s.rpu.wait = none)
    (h : f.kind = .ack ∨ (f.kind = .beacon ∧ f.modifier ≠ 1) ∨
      (f.kind = .data ∧ f.dest ≠ byteOf s.stc.config.ownNumber ∧ f.dest ≠ 255) ∨
      (f.kind ≠ .data ∧ s.stc.config.ladderSize ≤ f.source.toNat) ∨ s.stc.station = .unjoined) :
    handOthers f s = sourceClaims f s := by
  have size : (ladderFrame f (handMismatch f s)).stc.config = s.stc.config := by
    unfold ladderFrame ladderHeard learned
    (repeat' split) <;> simp [enterAnnouncing]
  have unjoined : s.stc.station = .unjoined → handMismatch f s = s ∧ ladderFrame f s = s := fun h => by
    have joins : joined s = false := joined_eq_false.2 h
    simp [handMismatch, mismatches, ladderFrame, ladderHeard, joins]
  have claims : peerFrame f (ladderFrame f (handMismatch f s)) = sourceClaims f s := by
    rcases h with h | h | h | ⟨-, above⟩ | h
    · exact peerFrame_plain (.inr (.inl h)) _
    · exact peerFrame_plain (.inr (.inr h)) _
    · exact peerFrame_plain (.inl h.1) _
    · obtain ⟨same, same'⟩ := peerFrame_untaken (s := ladderFrame f (handMismatch f s))
        fun p source => above_untaken (by rwa [size]) p source
      rw [sourceClaims, same, same']
    · obtain ⟨mismatch, ladder⟩ := unjoined h
      rw [sourceClaims_unjoined h, mismatch, ladder]
      exact (peerFrame_untaken fun p _ => by simp [claimsTaken, joined_eq_false.2 h]).1
  rw [handOthers_quiet quiet, claims]
  have config : (sourceClaims f s).stc.config = s.stc.config := by
    rw [← claims, (peerFrame_frame _ _).2.2.2.2.2.2.2.1, size]
  have station : s.stc.station = .unjoined → receives (sourceClaims f s) = false := fun h => by
    rw [sourceClaims_unjoined h]
    exact receives_unjoined h
  have notData : f.kind = .ack ∨ f.kind = .beacon → f.kind ≠ .data := by rintro (h | h) <;> simp [h]
  have left : f.kind ≠ .data ∨ f.dest ≠ byteOf s.stc.config.ownNumber ∧ f.dest ≠ 255 ∨ s.stc.station = .unjoined := by
    rcases h with h | ⟨h, -⟩ | ⟨-, h⟩ | ⟨h, -⟩ | h
    · exact .inl (notData (.inl h))
    · exact .inl (notData (.inr h))
    · exact .inr (.inl h)
    · exact .inl h
    · exact .inr (.inr h)
  rw [acceptUnicast_other, admitBroadcast_other]
  · exact left.imp_right fun h => h.imp And.right station
  · rw [config]
    exact left.imp_right fun h => h.imp And.left station

/-! ### A good frame from the own number (R15, R31, R50) -/

theorem handClash_quiet (joins : s.stc.station ≠ .unjoined) (quiet : s.rpu.wait = none) : handClash f s = { s with
      lastSender := if f.kind = .ack then s.lastSender else some s.stc.config.ownNumber,
      stc := if f.kind ≠ .ack ∧ s.stc.station = .listening then
          { s.stc with station := .announcing, listeningRound := none } else s.stc,
      txq := if f.kind ≠ .ack ∧ s.stc.station = .listening then { s.txq with beacon := .joining } else s.txq,
      notices := (handClash f s).notices, counters := (handClash f s).counters } ∧
    NoticeOffered { kind := .numberClash, subject := f.source, detail := byteOf f.kind.code } s (handClash f s) := by
  have claim : ∀ w : State, w.rpu.wait = none → afterWait w (waitGood f w) = w := fun w hw => by
    rw [afterWait_quiet hw, waitGood_quiet hw]
  have clash : handClash f s = if f.kind = .ack then offerNotice (sourceNotice .numberClash f) s
      else ladderHeard s.stc.config.ownNumber (offerNotice (sourceNotice .numberClash f) s) := by
    rw [handClash]
    split
    · exact claim _ (by simp [quiet])
    · rw [claim _ (by simp [quiet])]
      simp
  rw [clash]
  by_cases ack : f.kind = .ack
  · rw [if_pos ack, offerNotice_eq]
    exact ⟨by simp [ack], (offerNotice_offered _ _).congr rfl rfl⟩
  · rw [if_neg ack, ladderHeard_eq (by simpa using joins), offerNotice_eq]
    exact ⟨by simp [ack], (offerNotice_offered _ _).congr rfl rfl⟩

/-- Settles O28: the claims of `HeardFrom`, the clash, and the survivor for either free value. -/
theorem goodFrameClaims : Obligations.GoodFrameClaims := by
  unfold Obligations.GoodFrameClaims
  intro clash
  refine ⟨fun s value f good quiet => ⟨fun other kinds => ?_, fun joins own => ?_⟩,
    fun s value f survivor quiet joins own => ?_⟩
  · refine ⟨sourceClaims f (heardGood (characterHeard true s)), ?_, heardFrom_sourceClaims other⟩
    rw [exec_goodFrame_others good other,
      handOthers_claims (s := heardGood (characterHeard true s)) quiet (by exact kinds)]
  · obtain ⟨state, notice⟩ := handClash_quiet (s := heardGood (characterHeard true s)) (f := f) joins quiet
    exact ⟨_, exec_goodFrame_clash good joins own, state, notice.congr rfl rfl⟩
  · obtain ⟨hr, calm, ⟨lde, d, receiving⟩, a, frame, marked, collided, passes, fields⟩ := survivor
    have run := exec_passes hr calm receiving frame passes fields
    rw [handPassed, if_pos marked, if_pos collided] at run
    have number : joined { characterHeard true s with frx := .awaitSync } = true := joined_iff.2 joins
    split
    case isTrue heard =>
      rw [handSurvivor, if_pos (by rw [number, heard, decide_eq_true (by exact own)]; rfl)] at run
      obtain ⟨state, notice⟩ :=
        handClash_quiet (s := { characterHeard true s with frx := .awaitSync }) (f := f) joins quiet
      exact ⟨_, run, state, notice.congr rfl rfl⟩
    case isFalse dropped =>
      rw [handSurvivor, if_neg (by simp [dropped])] at run
      exact run

/-! ### PAUSE, RESUME and joining BEACON (R102 to R106) -/

theorem pausePeer_eq (p : Fin 32) (cause : PauseCause) (s : State) : pausePeer p cause s = { s with
      ptb := setRecord p { s.ptb.records[p] with paused := true, pauseTimer := some s.stc.config.pauseHold } s.ptb,
      txq := { s.txq with entries := (pausePeer p cause s).txq.entries },
      notices := (pausePeer p cause s).notices, counters := (pausePeer p cause s).counters } ∧
    if s.ptb.records[p].paused = true then (pausePeer p cause s).txq = s.txq ∧ NothingReported s (pausePeer p cause s)
    else EntriesMapped (heldBy p) s (pausePeer p cause s) ∧
      NoticeOffered (pausedNotice p cause) s (pausePeer p cause s) := by
  unfold pausePeer
  dsimp only
  by_cases paused : s.ptb.records[p].paused = true
  · rw [if_pos paused, if_pos paused]
    exact ⟨rfl, rfl, rfl, rfl⟩
  · rw [if_neg paused, if_neg paused, offerNotice_eq]
    exact ⟨rfl, (pauseEntries_entries p s).1, (offerNotice_offered _ _).congr rfl rfl⟩

theorem setRecord_same (p : Fin 32) (table : PeerTable) : setRecord p table.records[p] table = table := by
  simp [setRecord]

@[simp] theorem setRecord_get (p q : Fin 32) (r : Peer) (table : PeerTable) :
    (setRecord p r table).records[q] = if q = p then r else table.records[q] := by
  by_cases h : q = p
  · subst h
    simp [setRecord]
  · have other : (p : Nat) ≠ q := fun e => h (Fin.ext e.symm)
    simp [setRecord, h, other]

@[simp] theorem setRecord_twice (p : Fin 32) (r r' : Peer) (table : PeerTable) :
    setRecord p r (setRecord p r' table) = setRecord p r table := by
  simp [setRecord]

/-- The record as an unpausing frame leaves it, the last-received sequence aside (R104, R106). -/
theorem resumePeer_eq (p : Fin 32) (cause : ResumeCause) (s : State) : resumePeer p cause s = { s with
      ptb := setRecord p { s.ptb.records[p] with
        paused := false,
        pauseTimer := if s.ptb.records[p].paused = true then none else s.ptb.records[p].pauseTimer } s.ptb,
      txq := { s.txq with entries := (resumePeer p cause s).txq.entries },
      notices := (resumePeer p cause s).notices, counters := (resumePeer p cause s).counters } ∧
    if s.ptb.records[p].paused = true then
      EntriesMapped (releasedBy p) s (resumePeer p cause s) ∧
        NoticeOffered (resumedNotice p cause) s (resumePeer p cause s)
    else (resumePeer p cause s).txq = s.txq ∧ NothingReported s (resumePeer p cause s) := by
  by_cases paused : s.ptb.records[p].paused = true
  · obtain ⟨state, report⟩ := resumePeer_resumed paused cause
    rw [if_pos paused, if_pos paused]
    exact ⟨state, report⟩
  · have same : resumePeer p cause s = s := if_neg paused
    have record : setRecord p { s.ptb.records[p] with paused := false, pauseTimer := s.ptb.records[p].pauseTimer } s.ptb =
        s.ptb := by
      have off : s.ptb.records[p].paused = false := by simpa using paused
      rw [← off]
      exact setRecord_same p s.ptb
    rw [if_neg paused, if_neg paused, same, record]
    exact ⟨rfl, rfl, rfl, rfl⟩

/-- A joining beacon at a record: its last-received sequence dropped, and any pause ended (R106). -/
theorem helloPeer_eq (p : Fin 32) (s : State) : helloPeer p s = { s with
      ptb := setRecord p { s.ptb.records[p] with
        paused := false,
        pauseTimer := if s.ptb.records[p].paused = true then none else s.ptb.records[p].pauseTimer,
        lastReceived := none } s.ptb,
      txq := { s.txq with entries := (helloPeer p s).txq.entries },
      notices := (helloPeer p s).notices, counters := (helloPeer p s).counters } ∧
    if s.ptb.records[p].paused = true then
      EntriesMapped (releasedBy p) s (helloPeer p s) ∧ NoticeOffered (resumedNotice p .hello) s (helloPeer p s)
    else (helloPeer p s).txq = s.txq ∧ NothingReported s (helloPeer p s) := by
  obtain ⟨state, report⟩ := resumePeer_eq p .hello (setPeer p { s.ptb.records[p] with lastReceived := none } s)
  have record : (setPeer p { s.ptb.records[p] with lastReceived := none } s).ptb.records[p] =
      { s.ptb.records[p] with lastReceived := none } := by simp [setPeer]
  have table : (setPeer p { s.ptb.records[p] with lastReceived := none } s).ptb =
      setRecord p { s.ptb.records[p] with lastReceived := none } s.ptb := rfl
  rw [record, table, setRecord_twice] at state
  rw [record] at report
  refine ⟨state, ?_⟩
  by_cases paused : s.ptb.records[p].paused = true
  · rw [if_pos paused]
    obtain ⟨entries, notice⟩ := (if_pos paused).mp report
    exact ⟨entries, notice.congr rfl rfl⟩
  · rw [if_neg paused]
    exact (if_neg paused).mp report

/-- A good frame of a station of the ladder: presence, then what its kind claims (R99). -/
theorem handOthers_kindClaims (quiet : s.rpu.wait = none) (notData : f.kind ≠ .data) (joins : s.stc.station ≠ .unjoined)
    (source : f.source = byteOf p.val) (below : p.val < s.stc.config.ladderSize) (other : p.val ≠ s.stc.config.ownNumber) :
    handOthers f s = kindClaims p f (sourceClaims f s) := by
  have number : f.source.toNat = p.val := by
    rw [source]
    exact byteOf_toNat_of_lt (by omega)
  have taken : claimsTaken (ladderFrame f s) p = true := by
    rw [ladderFrame_claimsTaken]
    exact claimsTaken_iff.2 ⟨joins, below, other⟩
  rw [handOthers_quiet quiet, admitBroadcast_other (.inl notData), acceptUnicast_other (.inl notData),
    sourceClaims_below joins source below other, handMismatch_below (by omega)]
  simp [peerFrame, source, taken]

/-- The claims on a record that precede those of the frame's kind leave its pause alone (R99). -/
theorem HeardFrom.record (h : HeardFrom f s v) (joins : s.stc.station ≠ .unjoined) (source : f.source = byteOf p.val)
    (below : p.val < s.stc.config.ladderSize) : v.ptb.records[p].paused = s.ptb.records[p].paused ∧
      v.ptb.records[p].pauseTimer = s.ptb.records[p].pauseTimer ∧
      v.ptb.records[p].lastReceived = s.ptb.records[p].lastReceived := by
  have number : f.source.toNat = p.val := by
    rw [source]
    exact byteOf_toNat_of_lt (by omega)
  unfold HeardFrom at h
  dsimp only at h
  rw [if_neg joins, if_pos (by omega)] at h
  obtain ⟨state, -⟩ := h p source
  rw [state]
  simp only [setRecord_get, if_true, and_self]

theorem sourceClaims_config (f : GoodFrame) (s : State) : (sourceClaims f s).stc.config = s.stc.config := by
  have presence : ∀ u : State, (presenceClaim f u).stc = u.stc := by
    intro u
    unfold presenceClaim
    (repeat' split) <;> simp
  rw [sourceClaims, presence]
  unfold ladderFrame ladderHeard learned
  (repeat' split) <;> simp [enterAnnouncing]

/-- Settles O29: the claims of `HeardFrom`, then those of the frame's kind. -/
theorem pauseAndResumeClaims : Obligations.PauseAndResumeClaims := by
  intro s value f p good quiet joins source below other small kinds
  have notOwn : f.source ≠ byteOf s.stc.config.ownNumber := by
    intro h
    refine other ?_
    have := congrArg BitVec.toNat (source.symm.trans h)
    rwa [byteOf_toNat_of_lt (by omega), byteOf_toNat_of_lt (by omega)] at this
  have notData : f.kind ≠ .data := by
    rcases kinds with h | h | ⟨h, -⟩ <;> simp [h]
  have heard : HeardFrom f (characterHeard true s) (sourceClaims f (heardGood (characterHeard true s))) :=
    heardFrom_sourceClaims (.inr notOwn)
  have run := exec_goodFrame_others good (.inr notOwn)
  rw [handOthers_kindClaims (s := heardGood (characterHeard true s)) (p := p) quiet notData joins source below other] at run
  have config : (sourceClaims f (heardGood (characterHeard true s))).stc.config = s.stc.config := sourceClaims_config _ _
  obtain ⟨paused, timer, last⟩ : _ = s.ptb.records[p].paused ∧ _ = s.ptb.records[p].pauseTimer ∧
    _ = s.ptb.records[p].lastReceived := heard.record (p := p) joins source below
  generalize sourceClaims f (heardGood (characterHeard true s)) = v at *
  refine ⟨v, kindClaims p f v, heard, run, fun pause => ?_, fun notPause => ?_⟩
  · have claims : kindClaims p f v = pausePeer p .pauseFrame v := by simp [kindClaims, pause]
    obtain ⟨state, report⟩ := pausePeer_eq p .pauseFrame v
    rw [paused, config] at *
    rw [claims]
    exact ⟨state, report⟩
  · by_cases beacon : f.kind = .beacon
    · have hello : f.modifier = 1 := by
        rcases kinds with h | h | ⟨-, h⟩
        · exact absurd h notPause
        · simp [beacon] at h
        · exact h
      have claims : kindClaims p f v = helloPeer p v := by simp [kindClaims, beacon, hello]
      obtain ⟨state, report⟩ := helloPeer_eq p v
      rw [paused, timer] at state
      rw [paused] at report
      rw [claims, if_pos beacon, if_pos beacon]
      exact ⟨state, report⟩
    · have resume : f.kind = .resume := by
        rcases kinds with h | h | ⟨h, -⟩
        · exact absurd h notPause
        · exact h
        · exact absurd h beacon
      have claims : kindClaims p f v = resumePeer p .resumeFrame v := by simp [kindClaims, resume]
      obtain ⟨state, report⟩ := resumePeer_eq p .resumeFrame v
      rw [paused, timer] at state
      rw [paused] at report
      rw [claims, if_neg beacon, if_neg beacon, ← last]
      exact ⟨state, report⟩

end Sys2Proof.Machine

/-! PROOFS. DATA frames: the acceptance decision (R79, R80, R83) and broadcast admission (R120). -/

namespace Sys2Proof.Machine

variable {s t u v : State} {f : GoodFrame} {value : Byte} {p : Fin 32}

/-! ### What a judgement of the fill reads (R121, R134, R135) -/

theorem NothingReported.congr {s' t' : State} (h : NothingReported s t) (notices : s'.notices = s.notices)
    (counters : s'.counters = s.counters) (notices' : t'.notices = t.notices) (counters' : t'.counters = t.counters) :
    NothingReported s' t' := by
  unfold NothingReported at *
  rwa [notices, counters, notices', counters']

theorem NoticeOffered.congr_after {n : Notice} {t' : State} (h : NoticeOffered n s t) (notices : t'.notices = t.notices)
    (counters : t'.counters = t.counters) : NoticeOffered n s t' := by
  unfold NoticeOffered at *
  rwa [notices, counters]

theorem FillJudged.congr {m : CongestionMonitor} {s' t' : State} (h : FillJudged m s t) (notices : s'.notices = s.notices)
    (counters : s'.counters = s.counters)
    (same : t'.rxp = t.rxp ∧ t'.cgm = t.cgm ∧ t'.stc = t.stc ∧ t'.notices = t.notices ∧ t'.counters = t.counters) :
    FillJudged m s' t' := by
  obtain ⟨pool, monitor, station, notices', counters'⟩ := same
  unfold FillJudged NothingReported NoticeOffered at *
  rwa [notices, counters, pool, monitor, station, notices', counters']

/-- A store: the pool with the record, and its fill judged (R119, R121). -/
theorem storeFrame_stored (broadcast : Bool) (f : GoodFrame) (s : State) : storeFrame broadcast f s = { s with
      rxp := poolWith s.stc.config { source := f.source, broadcast := broadcast, seq := f.seq, payload := f.payload,
                                     watch := watchIndex s.stc.config f.source f.payload } s.rxp,
      cgm := (storeFrame broadcast f s).cgm, notices := (storeFrame broadcast f s).notices,
      counters := (storeFrame broadcast f s).counters } ∧
    FillJudged s.cgm s (storeFrame broadcast f s) := by
  obtain ⟨u, judged, state, fill⟩ :=
    judgeFill_setPool (poolWith s.stc.config (recordFor s.stc.config broadcast f) s.rxp) s
  have stored : storeFrame broadcast f s = u := judged
  rw [stored]
  exact ⟨state, fill⟩

/-! ### The claims of `HeardFrom` on what the decision reads -/

theorem ladderFrame_receives (f : GoodFrame) (s : State) : receives (ladderFrame f s) = receives s := by
  by_cases joins : s.stc.station = .unjoined
  · simp [ladderFrame, ladderHeard, joined_eq_false.2 joins]
  · unfold ladderFrame
    split
    · rw [ladderHeard_eq joins]
      by_cases listening : s.stc.station = .listening <;> simp [receives, listening]
    · rfl

/-- What a good frame's claims leave to the Reply Unit and the pool (R79, R80, R120). -/
theorem sourceClaims_frame (f : GoodFrame) (s : State) : (sourceClaims f s).rpu = s.rpu ∧ (sourceClaims f s).rxp = s.rxp ∧
    (sourceClaims f s).stc.config = s.stc.config ∧ receives (sourceClaims f s) = receives s := by
  have presence : ∀ u : State, (presenceClaim f u).rpu = u.rpu ∧ (presenceClaim f u).rxp = u.rxp ∧
      (presenceClaim f u).stc = u.stc := by
    intro u
    unfold presenceClaim
    (repeat' split) <;> simp
  obtain ⟨reply, pool, station⟩ := presence (ladderFrame f (handMismatch f s))
  refine ⟨by rw [sourceClaims, reply]; simp, by rw [sourceClaims, pool]; simp, sourceClaims_config f s, ?_⟩
  have mismatch : (handMismatch f s).stc = s.stc := by simp
  rw [sourceClaims, receives, station, ← receives, ladderFrame_receives, receives, mismatch, ← receives]

theorem fits_iff {pool : ReceivePool} {length : Nat} :
    fits pool length = true ↔ pool.fill + (if length ≤ 32 then 1 else 2) ≤ 48 := by
  simp only [fits, decide_eq_true_eq]
  exact Iff.rfl

/-! ### The acceptance decision (R79, R80) -/

theorem acceptUnicast_decides (h : isForUs f s = true) :
    acceptUnicast f s = createReply f (decision f s) (applyDecision f (decision f s) s) := if_pos h

theorem createReply_eq (f : GoodFrame) (r : ReplyResult) (s : State) : createReply f r s = { s with
    rpu := if s.rpu.pending.any (fun old => old.sending) = true then s.rpu
      else { s.rpu with pending := some { dest := f.source, seq := f.seq, result := r, sending := false } } } := by
  unfold createReply
  dsimp only
  cases s.rpu.pending with
  | none => simp
  | some old => cases hs : old.sending <;> simp [hs]

theorem lastReceivedOf_iff (other : f.source ≠ byteOf s.stc.config.ownNumber) {seq : Byte} :
    lastReceivedOf s f.source = some seq ↔ ∃ p : Fin 32, f.source = byteOf p.val ∧ p.val < s.stc.config.ladderSize ∧
      s.ptb.records[p].lastReceived = some seq := by
  unfold lastReceivedOf
  cases hp : recordOf f.source with
  | none =>
    refine iff_of_false (by simp) ?_
    rintro ⟨p, source, -⟩
    simp [source] at hp
  | some p =>
    have source := recordOf_eq_some.1 hp
    have distinct : p.val ≠ s.stc.config.ownNumber := fun h => other (h ▸ source)
    have only : ∀ q : Fin 32, f.source = byteOf q.val → q = p := fun q hq =>
      Option.some.inj ((recordOf_eq_some.2 hq).symm.trans hp)
    by_cases below : p.val < s.stc.config.ladderSize
    · simp only [recordInUse, below, distinct, ne_eq, not_false_eq_true, decide_true, Bool.and_self, if_true]
      exact ⟨fun h => ⟨p, source, below, h⟩, fun ⟨q, hq, _, h⟩ => only q hq ▸ h⟩
    · refine iff_of_false (by simp [recordInUse, below]) ?_
      rintro ⟨q, hq, small, -⟩
      exact below (only q hq ▸ small)

theorem setLastReceived_below (source : f.source = byteOf p.val) (below : p.val < s.stc.config.ladderSize)
    (other : p.val ≠ s.stc.config.ownNumber) (seq : Byte) : setLastReceived f.source seq s =
      { s with ptb := setRecord p { s.ptb.records[p] with lastReceived := some seq } s.ptb } := by
  simp [setLastReceived, source, recordInUse, below, other]
  rfl

theorem setLastReceived_above (above : s.stc.config.ladderSize ≤ f.source.toNat) (seq : Byte) :
    setLastReceived f.source seq s = s := by
  unfold setLastReceived
  cases hp : recordOf f.source with
  | none => rfl
  | some p =>
    have number : f.source.toNat = p.val := by
      rw [recordOf_eq_some.1 hp]
      exact byteOf_toNat_of_lt (by omega)
    have unused : ¬ p.val < s.stc.config.ladderSize := by omega
    simp [recordInUse, unused]

theorem handOthers_data (quiet : s.rpu.wait = none) (data : f.kind = .data) :
    handOthers f s = admitBroadcast f (acceptUnicast f (sourceClaims f s)) := by
  rw [handOthers_quiet quiet, peerFrame_plain (.inl data), sourceClaims]

/-- Settles O30: the claims of `HeardFrom`, then the decision's result. -/
theorem acceptanceDecision : Obligations.AcceptanceDecision := by
  intro s value f good quiet data dest notAll other
  have run := exec_goodFrame_others good (.inr other)
  rw [handOthers_data (s := heardGood (characterHeard true s)) quiet data, admitBroadcast_other (.inr (.inl notAll))] at run
  have heard : HeardFrom f (characterHeard true s) (sourceClaims f (heardGood (characterHeard true s))) :=
    heardFrom_sourceClaims (.inr other)
  obtain ⟨reply, pool, config, live⟩ : _ = s.rpu ∧ _ = s.rxp ∧ _ = s.stc.config ∧ _ = receives s :=
    sourceClaims_frame f (heardGood (characterHeard true s))
  generalize sourceClaims f (heardGood (characterHeard true s)) = v at *
  refine ⟨v, heard, ?_⟩
  intro owes receiving repeated fill
  have alive : receives v = true ↔ receiving := live ▸ receives_iff
  have mine : receiving → isForUs f v = true := fun h => isForUs_iff.2
    ⟨data, by rw [config]; exact dest, by rw [config]; exact other, alive.2 h⟩
  have decides : receiving → acceptUnicast f v = { applyDecision f (decision f v) v with rpu := owes (decision f v) } :=
    fun h => by
      rw [acceptUnicast_decides (mine h), createReply_eq, (applyDecision_frame _ _ _).2.2.2.2.2.1, reply]
  have again : receiving → (lastReceivedOf v f.source = some f.seq ↔ repeated) := fun h => by
    rw [lastReceivedOf_iff (by rw [config]; exact other), config]
    refine exists_congr fun p => and_congr_right fun source => and_congr_right fun below => ?_
    rw [(heard.record h.1 source below).2.2]
    rfl
  have room : fits v.rxp f.payload.length = true ↔ fill ≤ 48 := by rw [fits_iff, pool]
  refine ⟨fun h => ?_, fun h same => ?_, fun h new full => ?_, fun h new free => ?_⟩
  · rw [run, acceptUnicast_other (.inr (.inr (Bool.eq_false_iff.2 fun hv => h (alive.1 hv))))]
  · have result : decision f v = .duplicate := if_pos ((again h).2 same)
    rw [run, decides h, result]
    rfl
  · have result : decision f v = .full := by
      rw [decision, if_neg (fun hl => new ((again h).1 hl)), if_neg (fun hf => by have := room.1 hf; omega)]
    rw [run, decides h, result]
    rfl
  · have result : decision f v = .taken := by
      rw [decision, if_neg (fun hl => new ((again h).1 hl)), if_pos (room.2 free)]
    rw [result, show applyDecision f .taken v = storeFrame false f (setLastReceived f.source f.seq v) from rfl] at decides
    obtain ⟨state, judged⟩ := storeFrame_stored false f (setLastReceived f.source f.seq v)
    have table : (storeFrame false f (setLastReceived f.source f.seq v)).ptb = (setLastReceived f.source f.seq v).ptb := by
      simp
    refine ⟨_, run, fun p source below => ?_, fun above => ?_, ?_, ?_⟩
    · have distinct : p.val ≠ v.stc.config.ownNumber := by
        rw [config]
        exact fun h => other (h ▸ source)
      rw [decides h]
      change (storeFrame false f (setLastReceived f.source f.seq v)).ptb = _
      rw [table, setLastReceived_below source (by rwa [config]) distinct]
    · rw [decides h]
      change (storeFrame false f (setLastReceived f.source f.seq v)).ptb = _
      rw [table, setLastReceived_above (by rwa [config])]
    · rw [decides h]
      change ({ storeFrame false f (setLastReceived f.source f.seq v) with rpu := _ } : State) = _
      have same : (setLastReceived f.source f.seq v).stc.config = s.stc.config ∧
          (setLastReceived f.source f.seq v).rxp = s.rxp := by simp [config, pool]
      rw [same.1, same.2] at state
      rw [state]
      simp
    · rw [decides h]
      have monitor : (setLastReceived f.source f.seq v).cgm = v.cgm := by simp
      exact (monitor ▸ judged).congr (by simp) (by simp) ⟨rfl, rfl, rfl, rfl, rfl⟩

/-! ### Broadcast admission (R120) -/

theorem admitBroadcast_admits (data : f.kind = .data) (all : f.dest = 255) (live : receives s = true) :
    admitBroadcast f s = if fits s.rxp f.payload.length then storeFrame true f s
      else { s with counters := { s.counters with broadcastDrops := oneMore s.counters.broadcastDrops } } := by
  refine if_pos ?_
  rw [Bool.and_eq_true, Bool.and_eq_true, decide_eq_true_eq, decide_eq_true_eq]
  exact ⟨⟨data, all⟩, live⟩

/-- Settles O31: the claims of `HeardFrom`, then the store or the drop. -/
theorem broadcastAdmission : Obligations.BroadcastAdmission := by
  intro s value f good quiet data all small other
  have run := exec_goodFrame_others good other
  have heard : HeardFrom f (characterHeard true s) (sourceClaims f (heardGood (characterHeard true s))) :=
    heardFrom_sourceClaims other
  obtain ⟨reply, pool, config, live⟩ : _ = s.rpu ∧ _ = s.rxp ∧ _ = s.stc.config ∧ _ = receives s :=
    sourceClaims_frame f (heardGood (characterHeard true s))
  rw [handOthers_data (s := heardGood (characterHeard true s)) quiet data] at run
  generalize sourceClaims f (heardGood (characterHeard true s)) = v at *
  have notMine : f.dest ≠ byteOf v.stc.config.ownNumber := by
    rw [all, config]
    intro h
    have := congrArg BitVec.toNat h
    rw [byteOf_toNat_of_lt (by omega)] at this
    simp at this
    omega
  rw [acceptUnicast_other (.inr (.inl notMine))] at run
  refine ⟨v, heard, ?_⟩
  intro receiving fill
  have alive : receives v = true ↔ receiving := live ▸ receives_iff
  have room : fits v.rxp f.payload.length = true ↔ fill ≤ 48 := by rw [fits_iff, pool]
  refine ⟨fun h => ?_, fun h full => ?_, fun h free => ?_⟩
  · rw [run, admitBroadcast_other (.inr (.inr (Bool.eq_false_iff.2 fun hv => h (alive.1 hv))))]
  · rw [run, admitBroadcast_admits data all (alive.2 h), if_neg (fun hf => by have := room.1 hf; omega)]
  · rw [admitBroadcast_admits data all (alive.2 h), if_pos (room.2 free)] at run
    obtain ⟨state, judged⟩ := storeFrame_stored true f v
    rw [config, pool] at state
    exact ⟨_, run, state, judged⟩

end Sys2Proof.Machine

/-! PROOFS. The reply wait (R87 to R90): how an attempt without reply ends, and LEAVE's completion after it (R157, R158). -/

namespace Sys2Proof.Machine

variable {s t u v : State} {f : GoodFrame} {value : Byte} {w : ReplyWait} {e : Entry}

/-! ### The end of an attempt (R65, R75, R157) -/

/-- LEAVE completion reaches UNJOINED with its notice (R158). -/
theorem leaveCompletion_leaves (v : State) : Leaves v (leaveCompletion v) := by
  unfold leaveCompletion
  rw [offerNotice_eq]
  exact ⟨rfl, (offerNotice_offered _ _).congr rfl rfl⟩

theorem attemptEnded_leaving (h : s.stc.station = .leaving) : attemptEnded s = leaveCompletion s := if_pos h

theorem attemptEnded_elsewhere (h : s.stc.station ≠ .leaving) : attemptEnded s = s := if_neg h

theorem failAttempt_leaving (h : Fin 16) (e : Entry) (o : Option EntryOutcome) (leaving : s.stc.station = .leaving) :
    failAttempt h e o s = { s with
      txq := setSlot h (some { e with state := .complete .failedWithdrawn }) s.txq,
      notices := s.notices ++ [{ kind := .failed, subject := byteOf h.val, detail := 3 }] } := by
  unfold failAttempt
  rw [if_pos leaving, completeEntry_eq]
  rfl

theorem failAttempt_elsewhere (h : Fin 16) (e : Entry) (o : EntryOutcome) (count limit : Nat)
    (elsewhere : s.stc.station ≠ .leaving) : failAttempt h e (limitOutcome o count limit) s =
      if limit ≤ count then { s with
        txq := setSlot h (some { e with state := .complete o }) s.txq, notices := s.notices ++ [completionNotice h o] }
      else { s with txq := setSlot h (some (returned s e)) s.txq } := by
  unfold failAttempt limitOutcome
  rw [if_neg elsewhere]
  by_cases limited : limit ≤ count
  · rw [if_pos limited, if_pos limited]
    exact completeEntry_eq h e o s
  · rw [if_neg limited, if_neg limited]
    exact returnEntry_eq h e s

/-- The state `s` with the wait absent, a no-reply counted and the current frame cleared (R65, R90). -/
def noReplyTaken (s : State) : State :=
  { s with
    rpu := { s.rpu with wait := none },
    counters := { s.counters with noReplies := oneMore s.counters.noReplies },
    txq := { s.txq with current := none } }

theorem endWait_noReply (entry : s.txq.entries[w.handle] = some e) (awaiting : e.state = .awaitingReply) :
    endWait w .noReply s = failAttempt w.handle { e with attempts := e.attempts + 1 }
      (limitOutcome .failedNoReply (e.attempts + 1) s.stc.config.retryLimit) (noReplyTaken s) := by
  simp only [endWait, replyOutcome]
  rw [entry]
  exact if_pos awaiting

/-- A wait that ends NO_REPLY, and the end of its attempt (R65, R75, R90, R157). -/
theorem afterWait_noReply (wait : s.rpu.wait = some w) (entry : s.txq.entries[w.handle] = some e)
    (awaiting : e.state = .awaitingReply) : EndsWithoutReply w e s (afterWait s (endWait w .noReply s)) := by
  have ended : afterWait s (endWait w .noReply s) = attemptEnded (endWait w .noReply s) := by
    refine if_pos ?_
    rw [endWait_noReply entry awaiting]
    simp [wait, noReplyTaken]
  rw [ended, endWait_noReply entry awaiting]
  unfold EndsWithoutReply
  by_cases leaving : s.stc.station = .leaving
  · rw [if_pos leaving, failAttempt_leaving _ _ _ (by exact leaving), attemptEnded_leaving (by exact leaving)]
    exact leaveCompletion_leaves _
  · rw [if_neg leaving, failAttempt_elsewhere _ _ _ _ _ (by exact leaving)]
    unfold EndsNoReply
    dsimp only
    by_cases limited : s.stc.config.retryLimit ≤ e.attempts + 1
    · rw [if_pos limited, if_pos (decide_eq_true limited), if_pos (decide_eq_true limited),
        attemptEnded_elsewhere (by exact leaving)]
      rfl
    · rw [if_neg limited, if_neg (by simp [limited]), if_neg (by simp [limited]),
        attemptEnded_elsewhere (by exact leaving)]
      rfl

/-! ### What ends a wait without reply (R10, R87, R88) -/

theorem windowEnds_open (wait : s.rpu.wait = some w) (waiting : w.candidate = false) :
    windowEnds s = afterWait s (endWait w .noReply s) := by
  simp [windowEnds, wait, waiting]

theorem windowEnds_candidate (wait : s.rpu.wait = some w) (candidate : w.candidate = true) : windowEnds s = s := by
  simp [windowEnds, wait, candidate]

/-- The state `s` once noise or a bad frame is counted: last sender UNKNOWN, a decided reply abandoned (R14, R32, R83). -/
def unheard (counters : Counters) (s : State) : State :=
  { s with counters := counters, lastSender := senderLost s, rpu := { s.rpu with pending := replyKept s } }

theorem handNoise_waits (wait : s.rpu.wait = some w) (waiting : w.candidate = false) : handNoise s =
    afterWait (unheard { s.counters with noise := oneMore s.counters.noise } s)
      (endWait w .noReply (unheard { s.counters with noise := oneMore s.counters.noise } s)) := by
  have taken : abandonReply (ladderUnknown { s with counters := { s.counters with noise := countUp s.counters.noise } }) =
      unheard { s.counters with noise := oneMore s.counters.noise } s := by
    rw [abandonReply_eq, ladderUnknown_eq]
    rfl
  have waits : (unheard { s.counters with noise := oneMore s.counters.noise } s).rpu.wait = some w := wait
  rw [handNoise, taken]
  refine congrArg _ ?_
  simp only [waitNoise, waits]
  exact if_neg (by simp [waiting])

theorem handBad_waits (wait : s.rpu.wait = some w) (cause : BadCause) : handBad cause s =
    afterWait (unheard (s.counters.countBad cause) s) (endWait w .noReply (unheard (s.counters.countBad cause) s)) := by
  have taken : abandonReply (ladderUnknown { s with counters := s.counters.countBad cause }) =
      unheard (s.counters.countBad cause) s := by
    rw [abandonReply_eq, ladderUnknown_eq]
    rfl
  have waits : (unheard (s.counters.countBad cause) s).rpu.wait = some w := wait
  rw [handBad, taken]
  refine congrArg _ ?_
  simp only [waitBad, waits]

/-- Settles O34: the window's end, a frame truncated, noise and a bad frame, each by `afterWait_noReply`. -/
theorem replyWaitEndsWithoutReply : Obligations.ReplyWaitEndsWithoutReply := by
  intro s w e hr wait entry awaiting
  have reached : ∀ {k}, s.lif.idleCounting = true → 1 ≤ k → s.lif.idle ≤ k → idleReaches k s = true :=
    fun counting positive below => idleReaches_iff.2 ⟨hr, counting, positive, below⟩
  refine ⟨fun counting positive below => ⟨fun candidate => ?_, fun waiting => ?_⟩, fun a counting below frame other => ?_,
    fun value stop lde d receiving calm => ⟨fun sync noise waiting => ?_, fun a cause frame other fails => ?_⟩⟩
  · exact exec_idleRaised rfl (reached counting positive below) (windowEnds_candidate (w := w) (by simpa using wait) candidate)
  · have wait' : (atIdleTime s.stc.config.replyWindow s).rpu.wait = some w := by simpa using wait
    exact ⟨_, exec_idleRaised rfl (reached counting positive below) (windowEnds_open wait' waiting),
      afterWait_noReply wait' (by simpa using entry) awaiting⟩
  · have frame' : (atIdleTime 7 s).frx = .inFrame a := by simpa using frame
    have wait' : ({ atIdleTime 7 s with frx := .awaitSync } : State).rpu.wait = some w := by simpa using wait
    have state : unheard (s.counters.countBad .truncated) { atIdleTime 7 s with frx := .awaitSync } = { atIdleTime 7 s with
        frx := .awaitSync, counters := { s.counters with badTruncated := oneMore s.counters.badTruncated },
        lastSender := senderLost s, rpu := { s.rpu with pending := replyKept s } } := by
      simp [unheard, senderLost, replyKept, Counters.countBad, countUp_eq]
    have bad := handBad_waits wait' .truncated
    rw [show ({ atIdleTime 7 s with frx := .awaitSync } : State).counters = s.counters by simp, state] at bad
    exact ⟨_, exec_idleRaised rfl (reached counting (by decide) below) ((receiveGap_truncated frame' other).trans bad),
      afterWait_noReply wait (by simpa using entry) awaiting⟩
  · have run := characterComplete_notComparing (value := value) (stop := stop) hr calm receiving
    have wait' : (characterHeard stop s).rpu.wait = some w := wait
    rw [receiveCharacter, show (characterHeard stop s).frx = .awaitSync from sync] at run
    dsimp only at run
    rw [takeSync_noise noise, handNoise_waits wait' waiting] at run
    exact ⟨_, run, afterWait_noReply wait' entry awaiting⟩
  · have run := characterComplete_notComparing (value := value) (stop := stop) hr calm receiving
    have bad := handBad_waits (w := w) (s := { characterHeard stop s with
      frx := if takeCharacter a value stop = .fails cause then .draining else .awaitSync }) wait cause
    rw [receiveCharacter_inFrame (show (characterHeard stop s).frx = _ from frame), takeInFrame_fails fails,
      failFrame_handed other, bad] at run
    exact ⟨_, run, afterWait_noReply wait entry awaiting⟩

end Sys2Proof.Machine

/-! PROOFS. The outcomes of own frames (R27): what each block does at one, and the statements on an entry's frame, the part's
own announcements, beacons and ACKs, the joining beacon, and echo loss. -/

namespace Sys2Proof.Machine

variable {s t u b : State} {own : OwnFrame} {o : OwnOutcome} {h : Fin 16} {e : Entry}

/-! ### The end of an own frame (R23, R27) -/

theorem finishOwnFrame_ends (off : s.lif.transmitter = .off) (progress : s.lif.own = some own)
    (judged : outcomeOf own.comparison = some o) :
    finishOwnFrame s = handOutcome own o { s with lif := { s.lif with own := none } } := by
  have ended : endedOwnFrame s.lif = some (own, o) := by
    simp [endedOwnFrame, off, progress, judged]
  simp only [finishOwnFrame, ended]
  rfl

theorem ldeReleases_ends (progress : s.lif.own = some own) (judged : outcomeOf own.comparison = some o)
    (moment : s.lif.transmitter = .trailing ∨ (s.lif.transmitter = .sending ∧
      (own.comparison = .collided ∨ own.comparison = .echoLost))) :
    ldeReleases s = handOutcome own o (ownFrameGone s) := by
  have can : canReleaseLde s.lif = true :=
    canReleaseLde_iff.2 (moment.imp_right fun ⟨sending, cut⟩ => ⟨sending, own, progress, cut⟩)
  rw [ldeReleases, if_pos can]
  exact finishOwnFrame_ends (s := setLine { s.lif with transmitter := .off, lde := false, bitTimer := 0, sending := none } s)
    rfl progress judged

theorem exec_ldeRelease (hr : running s = true) (progress : s.lif.own = some own)
    (judged : outcomeOf own.comparison = some o)
    (moment : s.lif.transmitter = .trailing ∨ (s.lif.transmitter = .sending ∧
      (own.comparison = .collided ∨ own.comparison = .echoLost)))
    (ht : handOutcome own o (ownFrameGone s) = t) : exec .ldeRelease s = .next (settleAttn t) :=
  exec_raised rfl hr ((ldeReleases_ends progress judged moment).trans ht)

/-! ### Ladder and Peer Table (R34, R110) -/

/-- The state `b` once Access Ladder and Peer Table have taken a CLEAN outcome (R34, R110). -/
def cleanClaims (kind : FrameKind) (b : State) : State :=
  { b with
    lastSender := if b.stc.station = .unjoined ∨ kind = .ack then b.lastSender else some b.stc.config.ownNumber,
    ptb := if b.stc.station = .unjoined then b.ptb else beaconLoaded b }

theorem claims_clean (kind : FrameKind) (b : State) :
    peerOutcome .clean (ladderOutcome kind .clean b) = cleanClaims kind b := by
  unfold peerOutcome ladderOutcome cleanClaims beaconLoaded beaconLoad
  by_cases unjoined : b.stc.station = .unjoined
  · simp [joined, unjoined]
  · by_cases ack : kind = .ack <;> simp [joined, unjoined, ack, setLastSender]

theorem claims_lost (lost : o ≠ .clean) (kind : FrameKind) (b : State) :
    peerOutcome o (ladderOutcome kind o b) = { b with lastSender := senderLost b } := by
  have ladder : ladderOutcome kind o b = ladderUnknown b := by cases o <;> simp_all [ladderOutcome]
  rw [ladder, ladderUnknown_eq]
  simp [peerOutcome, lost]

/-! ### The requester (R59, R61, R62, R84) -/

theorem requesterOutcome_queue (queue : own.requester = .transmitQueue) (s : State) :
    requesterOutcome own o s = currentOutcome o s := by
  simp [requesterOutcome, queue]

theorem requesterOutcome_reply (reply : own.requester = .replyUnit) (s : State) : requesterOutcome own o s =
    { s with rpu := { s.rpu with pending := s.rpu.pending.filter fun r => !r.sending } } := by
  rcases s with ⟨_, _, _, _, _, ⟨pending, wait⟩, _, _, _, _, _, _, _, _, _⟩
  unfold requesterOutcome
  rw [reply]
  cases pending with
  | none => rfl
  | some r => cases hs : r.sending <;> simp [Option.filter, hs]

/-- The current frame is an announcement or a beacon. -/
def currentIsOwn (s : State) : Prop :=
  (∃ a, s.txq.current = some (.announcement a)) ∨ ∃ j, s.txq.current = some (.beacon j)

theorem currentOutcome_own (current : currentIsOwn s) : currentOutcome o s = { s with txq := { s.txq with
    current := none,
    beacon := if o = .clean ∧ ∃ j, s.txq.current = some (.beacon j) then .none else s.txq.beacon } } := by
  rcases current with ⟨a, h⟩ | ⟨j, h⟩
  · simp [currentOutcome, h, setCurrent]
  · cases o <;> simp [currentOutcome, h, setCurrent, setBeacon]

theorem currentOutcome_entry (current : s.txq.current = some (.entry h)) (entry : s.txq.entries[h] = some e)
    (onLine : e.state = .onLine) : currentOutcome o s = entryOutcome h e o s := by
  simp only [currentOutcome, current]
  rw [entry]
  exact if_pos onLine

theorem entryOutcome_unicast (unicast : e.dest ≠ 255) {q : Byte} (seq : e.seq = some q) (s : State) :
    entryOutcome h e .clean s = { s with
      txq := setSlot h (some { e with state := .awaitingReply }) s.txq,
      rpu := { s.rpu with wait := some { handle := h, dest := e.dest, seq := q, candidate := false } } } := by
  simp only [entryOutcome, entryClean]
  rw [if_neg (show ¬ e.dest = Config.toAll from unicast), seq]
  rfl

theorem entryOutcome_broadcast (broadcast : e.dest = 255) (s : State) : entryOutcome h e .clean s = { s with
    txq := { setSlot h (some { e with state := .complete .sentBroadcast }) s.txq with current := none },
    notices := s.notices ++ [{ kind := .sent, subject := byteOf h.val, detail := 3 }] } := by
  simp only [entryOutcome, entryClean]
  rw [if_pos (show e.dest = Config.toAll from broadcast), completeEntry_eq]
  rfl

/-! ### Monitor and Station Control (R136 to R139, R153, R154, R157) -/

theorem monitorOutcome_other (h : o ≠ .clean ∨ s.stc.station ≠ .active ∨ (own.kind ≠ .pause ∧ own.kind ≠ .resume)) :
    monitorOutcome own.kind o s = s := by
  unfold monitorOutcome
  split
  case isFalse => rfl
  case isTrue acts =>
    rw [Bool.and_eq_true, decide_eq_true_eq, isActive, decide_eq_true_eq] at acts
    rcases h with h | h | ⟨pause, resume⟩
    · exact absurd acts.2 h
    · exact absurd acts.1 h
    · cases hk : own.kind <;> simp_all

theorem monitorOutcome_pause (kind : own.kind = .pause) (s : State) : monitorOutcome own.kind .clean s = { s with cgm :=
    if s.stc.station ≠ .active then s.cgm
    else if s.cgm.congested = true then
      { s.cgm with announced := true, refreshTimer := some (max 2 (s.stc.config.pauseHold / 2)),
                   announcement := if s.cgm.announcement = some .pause then none else s.cgm.announcement }
    else { s.cgm with announced := true, announcement := some .resume } } := by
  by_cases active : s.stc.station = .active
  · simp [monitorOutcome, isActive, active, kind, setMonitor, monitorPauseClean, refreshLoad]
  · simp [monitorOutcome, isActive, active]

theorem monitorOutcome_resume (kind : own.kind = .resume) (s : State) : monitorOutcome own.kind .clean s = { s with cgm :=
    if s.stc.station ≠ .active then s.cgm
    else if s.cgm.congested = true then
      { s.cgm with announced := false, refreshTimer := none, announcement := some .pause }
    else { s.cgm with announced := false, refreshTimer := none,
                      announcement := if s.cgm.announcement = some .resume then none else s.cgm.announcement } } := by
  by_cases active : s.stc.station = .active
  · simp [monitorOutcome, isActive, active, kind, setMonitor, monitorResumeClean]
  · simp [monitorOutcome, isActive, active]

theorem stationOutcome_ended (notLost : o ≠ .echoLost) (s : State) : stationOutcome own o true s = attemptEnded s := by
  cases o with
  | clean => simp [stationOutcome]
  | collided => simp [stationOutcome]
  | echoLost => exact absurd rfl notLost

theorem stationOutcome_goesOn (notLost : o ≠ .echoLost)
    (h : o = .collided ∨ own.kind ≠ .beacon ∨ own.joining = false ∨ s.stc.station ≠ .announcing) :
    stationOutcome own o false s = s := by
  cases o with
  | echoLost => exact absurd rfl notLost
  | collided => simp [stationOutcome]
  | clean =>
    refine if_neg ?_
    rw [Bool.and_eq_true, Bool.and_eq_true, decide_eq_true_eq, decide_eq_true_eq]
    rintro ⟨⟨beacon, joining⟩, announcing⟩
    rcases h with h | h | h | h
    · cases h
    · exact h beacon
    · simp [joining] at h
    · exact h announcing

/-! ### An outcome at every block -/

theorem handOutcome_clean (own : OwnFrame) (b : State) : handOutcome own .clean b =
    let s := cleanClaims own.kind b
    let s' := monitorOutcome own.kind .clean (requesterOutcome own .clean s)
    stationOutcome own .clean (currentIsEntry s && s'.txq.current.isNone) s' := by
  rw [handOutcome, claims_clean]

theorem handOutcome_lost (lost : o ≠ .clean) (own : OwnFrame) (b : State) : handOutcome own o b =
    let s : State := { b with lastSender := senderLost b }
    let s' := requesterOutcome own o s
    stationOutcome own o (currentIsEntry s && s'.txq.current.isNone) s' := by
  rw [handOutcome, claims_lost lost, monitorOutcome_other (.inl lost)]

/-! ### An entry's frame (R61, R62, R75, R157) -/

/-- An entry's frame that ends clean or collided: the entry's outcome, and, if it ended the attempt, LEAVE completion where the
station is LEAVING (R61, R62, R157). -/
theorem handOutcome_entry {c x : State} (notLost : o ≠ .echoLost)
    (claims : peerOutcome o (ladderOutcome own.kind o b) = c) (outcome : entryOutcome h e o c = x)
    (queue : own.requester = .transmitQueue) (data : own.kind = .data) (current : c.txq.current = some (.entry h))
    (entry : c.txq.entries[h] = some e) (onLine : e.state = .onLine) :
    (x.txq.current = none → handOutcome own o b = attemptEnded x) ∧
    (x.txq.current ≠ none → handOutcome own o b = x) := by
  have taken : requesterOutcome own o c = x := by
    rw [requesterOutcome_queue queue, currentOutcome_entry current entry onLine, outcome]
  have monitor : ∀ y : State, monitorOutcome own.kind o y = y := fun y => monitorOutcome_other (.inr (.inr (by simp [data])))
  have isEntry : currentIsEntry c = true := by simp [currentIsEntry, current]
  rw [handOutcome, claims, taken, monitor, isEntry, Bool.true_and]
  refine ⟨fun ended => ?_, fun goesOn => ?_⟩
  · rw [ended]
    exact stationOutcome_ended notLost x
  · rw [Option.isNone_eq_false_iff.2 (Option.isSome_iff_ne_none.2 goesOn)]
    exact stationOutcome_goesOn notLost (.inr (.inl (by simp [data])))

theorem cleanClaims_joined (joins : b.stc.station ≠ .unjoined) {kind : FrameKind} (notAck : kind ≠ .ack) :
    cleanClaims kind b = { b with lastSender := some b.stc.config.ownNumber, ptb := beaconLoaded b } := by
  simp [cleanClaims, joins, notAck]

/-- The claims of a clean frame of an entry's, in a joined state (R34, R110). -/
theorem claims_entryClean (joins : s.stc.station ≠ .unjoined) (data : own.kind = .data) :
    peerOutcome .clean (ladderOutcome own.kind .clean (ownFrameGone s)) =
      { ownFrameGone s with lastSender := some s.stc.config.ownNumber, ptb := beaconLoaded s } := by
  rw [claims_clean, cleanClaims_joined (by exact joins) (by simp [data])]
  rfl

/-- Settles O41: the outcomes of `entryOutcome`, in LEAVING and elsewhere. -/
theorem entryFrameOutcome : Obligations.EntryFrameOutcome := by
  refine ⟨fun s own h e hr progress queue data current entry onLine notLeaving joins => ⟨fun clean trailing => ?_,
      fun collided moment => ?_⟩,
    fun s own h e hr progress queue data current entry onLine leaving => ⟨fun clean trailing broadcast => ?_,
      fun clean trailing q unicast seq => ?_, fun collided moment => ?_⟩⟩
  · have judged : outcomeOf own.comparison = some .clean := by simp [outcomeOf, clean]
    refine ⟨fun q unicast seq => ?_, fun broadcast => ?_⟩
    · have ends := handOutcome_entry (b := ownFrameGone s) (by simp) (claims_entryClean joins data)
        (entryOutcome_unicast unicast seq _) queue data current entry onLine
      exact exec_ldeRelease hr progress judged (.inl trailing) (ends.2 (by simp [setSlot, ownFrameGone, current]))
    · have ends := handOutcome_entry (b := ownFrameGone s) (by simp) (claims_entryClean joins data)
        (entryOutcome_broadcast broadcast _) queue data current entry onLine
      exact exec_ldeRelease hr progress judged (.inl trailing)
        ((ends.1 rfl).trans (attemptEnded_elsewhere (by exact notLeaving)))
  · have judged : outcomeOf own.comparison = some .collided := by simp [outcomeOf, collided]
    have claims : peerOutcome .collided (ladderOutcome own.kind .collided (ownFrameGone s)) =
        { ownFrameGone s with lastSender := none } := by
      rw [claims_lost (by simp), senderLost, if_neg (by exact joins)]
    have outcome := failAttempt_elsewhere (s := setCurrent none { ownFrameGone s with lastSender := none }) h
      { e with collisions := e.collisions + 1 } .failedCollisions (e.collisions + 1) s.stc.config.collisionLimit
      (by exact notLeaving)
    have ends := fun x (hx : entryOutcome h e .collided { ownFrameGone s with lastSender := none } = x) =>
      handOutcome_entry (b := ownFrameGone s) (by simp) claims hx queue data current entry onLine
    refine ⟨fun limited => ?_, fun below => ?_⟩
    · rw [if_pos limited] at outcome
      exact exec_ldeRelease hr progress judged (moment.imp_right fun m => ⟨m, .inl collided⟩)
        (((ends _ outcome).1 rfl).trans (attemptEnded_elsewhere (by exact notLeaving)))
    · rw [if_neg (by omega)] at outcome
      exact exec_ldeRelease hr progress judged (moment.imp_right fun m => ⟨m, .inl collided⟩)
        (((ends _ outcome).1 rfl).trans (attemptEnded_elsewhere (by exact notLeaving)))
  · have ends := handOutcome_entry (b := ownFrameGone s) (by simp) (claims_entryClean (by simp [leaving]) data)
      (entryOutcome_broadcast broadcast _) queue data current entry onLine
    exact ⟨_, exec_ldeRelease hr progress (by simp [outcomeOf, clean]) (.inl trailing)
      ((ends.1 rfl).trans (attemptEnded_leaving (by exact leaving))), leaveCompletion_leaves _⟩
  · have ends := handOutcome_entry (b := ownFrameGone s) (by simp) (claims_entryClean (by simp [leaving]) data)
      (entryOutcome_unicast unicast seq _) queue data current entry onLine
    exact exec_ldeRelease hr progress (by simp [outcomeOf, clean]) (.inl trailing)
      (ends.2 (by simp [setSlot, ownFrameGone, current]))
  · have claims : peerOutcome .collided (ladderOutcome own.kind .collided (ownFrameGone s)) =
        { ownFrameGone s with lastSender := senderLost (ownFrameGone s) } := claims_lost (by simp) _ _
    have outcome := failAttempt_leaving (s := setCurrent none { ownFrameGone s with lastSender := senderLost (ownFrameGone s) })
      h { e with collisions := e.collisions + 1 }
      (limitOutcome .failedCollisions (e.collisions + 1) s.stc.config.collisionLimit) (by exact leaving)
    have ends := handOutcome_entry (b := ownFrameGone s) (by simp) claims outcome queue data current entry onLine
    exact ⟨_, exec_ldeRelease hr progress (by simp [outcomeOf, collided]) (moment.imp_right fun m => ⟨m, .inl collided⟩)
      ((ends.1 rfl).trans (attemptEnded_leaving (by exact leaving))), leaveCompletion_leaves _⟩

/-! ### Announcements, beacons and ACKs (R59, R84, R137, R138, R153) -/

theorem currentIsEntry_own (current : currentIsOwn s) : currentIsEntry s = false := by
  rcases current with ⟨a, h⟩ | ⟨j, h⟩ <;> simp [currentIsEntry, h]

/-- A frame of the Reply Unit's ends no entry's attempt. -/
theorem attempt_goesOn (s : State) : (currentIsEntry s && s.txq.current.isNone) = false := by
  unfold currentIsEntry
  cases s.txq.current <;> simp

theorem handOutcome_ownClean (queue : own.requester = .transmitQueue) (current : currentIsOwn b) :
    handOutcome own .clean b = stationOutcome own .clean false (monitorOutcome own.kind .clean
      { cleanClaims own.kind b with txq := { b.txq with
          current := none,
          beacon := if ∃ j, b.txq.current = some (.beacon j) then .none else b.txq.beacon } }) := by
  have isOwn : currentIsOwn (cleanClaims own.kind b) := current
  rw [handOutcome, claims_clean, requesterOutcome_queue queue, currentOutcome_own isOwn, currentIsEntry_own isOwn,
    Bool.false_and]
  simp [cleanClaims]

theorem handOutcome_ownCollided (queue : own.requester = .transmitQueue) (current : currentIsOwn b) :
    handOutcome own .collided b = { b with lastSender := senderLost b, txq := { b.txq with current := none } } := by
  have isOwn : currentIsOwn { b with lastSender := senderLost b } := current
  rw [handOutcome, claims_lost (by simp), requesterOutcome_queue queue, currentOutcome_own isOwn, currentIsEntry_own isOwn,
    Bool.false_and, monitorOutcome_other (.inl (by simp)), stationOutcome_goesOn (by simp) (.inl rfl)]
  simp

theorem handOutcome_ack (reply : own.requester = .replyUnit) (ack : own.kind = .ack) (notLost : o ≠ .echoLost) {c : State}
    (claims : peerOutcome o (ladderOutcome own.kind o b) = c) :
    handOutcome own o b = { c with rpu := { c.rpu with pending := c.rpu.pending.filter fun r => !r.sending } } := by
  rw [handOutcome, claims, requesterOutcome_reply reply, monitorOutcome_other (.inr (.inr (by simp [ack]))), attempt_goesOn c,
    stationOutcome_goesOn notLost (.inr (.inl (by simp [ack])))]

/-- Settles O42, by the frame's requester and kind. -/
theorem announcementBeaconAckOutcome : Obligations.AnnouncementBeaconAckOutcome := by
  intro s own hr progress
  refine ⟨fun clean trailing => ?_, fun collided moment => ?_⟩
  · have judged : outcomeOf own.comparison = some .clean := by simp [outcomeOf, clean]
    have release := fun t => exec_ldeRelease (t := t) hr progress judged (.inl trailing)
    have notAck : own.kind ≠ .ack → cleanClaims own.kind (ownFrameGone s) = { ownFrameGone s with
        lastSender := if s.stc.station = .unjoined then s.lastSender else some s.stc.config.ownNumber,
        ptb := if s.stc.station = .unjoined then s.ptb else beaconLoaded s } := fun h => by
      simp only [cleanClaims, h, or_false]
      rfl
    intro b c
    refine ⟨fun reply ack => release _ ?_, fun queue beacon current stays => release _ ?_,
      fun queue pause current => release _ ?_, fun queue resume current => release _ ?_⟩
    · rw [handOutcome_ack reply ack (by simp) (claims_clean _ _), ack]
      simp only [cleanClaims, or_true, if_true]
      rfl
    · have isBeacon : ∃ j, (ownFrameGone s).txq.current = some (.beacon j) := current
      rw [handOutcome_ownClean (b := ownFrameGone s) queue (.inr isBeacon),
        monitorOutcome_other (.inr (.inr (by simp [beacon]))), notAck (by simp [beacon]), if_pos isBeacon,
        stationOutcome_goesOn (by simp) (.inr (.inr (by exact stays)))]
      rfl
    · have noBeacon : ¬ ∃ j, (ownFrameGone s).txq.current = some (.beacon j) := by simp [ownFrameGone, current]
      rw [handOutcome_ownClean (b := ownFrameGone s) queue (.inl ⟨_, current⟩), monitorOutcome_pause pause,
        stationOutcome_goesOn (by simp) (.inr (.inl (by simp [pause]))), notAck (by simp [pause]), if_neg noBeacon]
      rfl
    · have noBeacon : ¬ ∃ j, (ownFrameGone s).txq.current = some (.beacon j) := by simp [ownFrameGone, current]
      rw [handOutcome_ownClean (b := ownFrameGone s) queue (.inl ⟨_, current⟩), monitorOutcome_resume resume,
        stationOutcome_goesOn (by simp) (.inr (.inl (by simp [resume]))), notAck (by simp [resume]), if_neg noBeacon]
      rfl
  · have judged : outcomeOf own.comparison = some .collided := by simp [outcomeOf, collided]
    have release := fun t => exec_ldeRelease (t := t) hr progress judged (moment.imp_right fun m => ⟨m, .inl collided⟩)
    refine ⟨fun reply ack => release _ ?_, fun queue current => release _ ?_⟩
    · exact handOutcome_ack reply ack (by simp) (claims_lost (by simp) _ _)
    · exact handOutcome_ownCollided (b := ownFrameGone s) queue current

/-- Settles O43: the joining beacon's clean outcome, then entry into ACTIVE. -/
theorem joiningBeaconActivates : Obligations.JoiningBeaconActivates := by
  intro s own hr progress announcing clean trailing queue beacon joining current
  have judged : outcomeOf own.comparison = some .clean := by simp [outcomeOf, clean]
  have claims : cleanClaims own.kind (ownFrameGone s) = { ownFrameGone s with
      lastSender := some s.stc.config.ownNumber, ptb := beaconLoaded s } :=
    cleanClaims_joined (by simp [ownFrameGone, announcing]) (by simp [beacon])
  have isBeacon : ∃ j, (ownFrameGone s).txq.current = some (.beacon j) := ⟨true, current⟩
  have ends := handOutcome_ownClean (b := ownFrameGone s) queue (.inr isBeacon)
  rw [monitorOutcome_other (.inr (.inr (by simp [beacon]))), claims, if_pos isBeacon] at ends
  have enters : ∀ x : State, x.stc.station = .announcing → stationOutcome own .clean false x = enterActive x := fun x hx => by
    simp [stationOutcome, beacon, joining, hx]
  rw [enters _ (by exact announcing), enterActive, offerNotice_eq] at ends
  refine ⟨_, exec_ldeRelease hr progress judged (.inl trailing) ends, ?_, ?_⟩
  · unfold monitorEntersActive
    by_cases congested : s.cgm.congested = true
    · rw [if_pos (by exact congested), if_pos congested]
      rfl
    · rw [if_neg (by exact congested), if_neg congested]
      rfl
  · refine NoticeOffered.congr (offerNotice_offered _ _) ?_ ?_
    · unfold monitorEntersActive
      split <;> rfl
    · unfold monitorEntersActive
      split <;> rfl

/-! ### Echo loss (R26, R34, R62, R84, R142, R154) -/

/-- The queue and the notices of a requester that takes an echo loss, from `b` (R59, R62, R75, R84). -/
theorem requesterOutcome_echoLost {q : TransmitQueue} {ns : List Notice} (taken : QueueTakesEchoLoss own b q ns) {l : Option Nat} :
    requesterOutcome own .echoLost { b with lastSender := l } = { b with
      lastSender := l, txq := q,
      rpu := if own.requester = .replyUnit then { b.rpu with pending := b.rpu.pending.filter fun r => !r.sending }
        else b.rpu,
      notices := b.notices ++ ns } := by
  rcases taken with ⟨reply, rfl, rfl⟩ | ⟨queue, current, rfl, rfl⟩ | ⟨h, e, queue, current, entry, onLine, rfl, rfl⟩
  · rw [requesterOutcome_reply reply, if_pos reply]
    simp
  · have isOwn : currentIsOwn { b with lastSender := l } := current
    have notReply : ¬ own.requester = .replyUnit := by simp [queue]
    rw [requesterOutcome_queue queue, currentOutcome_own isOwn, if_neg notReply]
    simp
  · have notReply : ¬ own.requester = .replyUnit := by simp [queue]
    rw [requesterOutcome_queue queue,
      currentOutcome_entry (s := { b with lastSender := l }) current entry onLine, if_neg notReply]
    by_cases leaving : b.stc.station = .leaving
    · rw [if_pos leaving, if_pos leaving]
      exact failAttempt_leaving (s := setCurrent none { b with lastSender := l }) h e none leaving
    · rw [if_neg leaving, if_neg leaving, List.append_nil]
      have returns : failAttempt h e none (setCurrent none { b with lastSender := l }) =
          returnEntry h e (setCurrent none { b with lastSender := l }) := if_neg leaving
      exact returns.trans (returnEntry_eq h e _)

theorem stationOutcome_halts (live : s.stc.station ≠ .unjoined ∧ s.stc.station ≠ .halted) {ended : Bool} :
    stationOutcome own .echoLost ended s = enterHalted own.kind s := if_pos (receives_iff.2 live)

theorem stationOutcome_off (off : s.stc.station = .unjoined ∨ s.stc.station = .halted) {ended : Bool} :
    stationOutcome own .echoLost ended s = s := by
  refine if_neg ?_
  rw [receives_iff]
  exact fun ⟨joined, live⟩ => off.elim joined live

/-- The outcome ECHO_LOST at every block (R34, R62, R84, R142, R154). -/
theorem handOutcome_echoLost {q : TransmitQueue} {ns : List Notice} (taken : QueueTakesEchoLoss own b q ns) :
    EndsEchoLost own q ns b (handOutcome own .echoLost b) := by
  rw [handOutcome, claims_lost (by simp), requesterOutcome_echoLost taken, monitorOutcome_other (.inl (by simp))]
  unfold EndsEchoLost
  dsimp only
  by_cases off : b.stc.station = .unjoined ∨ b.stc.station = .halted
  · rw [if_pos off, stationOutcome_off (by exact off)]
  · rw [if_neg off, stationOutcome_halts (by exact not_or.1 off), enterHalted, offerNotice_eq]
    exact ⟨rfl, (offerNotice_offered _ _).congr rfl rfl⟩

theorem echoLossFound_cuts (progress : s.lif.own = some own) (opened : own.comparison = .opened) (awaited : s.lif.echo ≠ [])
    (begun : s.lif.transmitter ≠ .lead) : echoLossFound s = finishOwnFrame { s with lif := { s.lif with
      own := some { own with comparison := .echoLost }, echo := [], toSend := [] } } := by
  have found : (s.lif.isOpen && !s.lif.echo.isEmpty) = true := by
    rw [Bool.and_eq_true, isOpen_iff, Bool.not_eq_true', List.isEmpty_eq_false_iff]
    exact ⟨⟨own, progress, opened⟩, awaited⟩
  rw [echoLossFound, if_pos found]
  simp [LineInterface.cut, LineInterface.judged, begun, progress, setLine]

theorem finishOwnFrame_notOff (h : s.lif.transmitter ≠ .off) : finishOwnFrame s = s := by
  unfold finishOwnFrame endedOwnFrame
  cases ht : s.lif.transmitter <;> simp_all

/-- Settles O40: the cut where LDE still runs, and the outcome ECHO_LOST where the frame ends. -/
theorem echoLossHalts : Obligations.EchoLossHalts := by
  intro s own hr progress
  refine ⟨fun opened awaited => ⟨fun running => ?_, fun off => ?_⟩, fun lost moment q ns taken => ?_⟩
  · refine exec_raised rfl hr ?_
    rw [echoLossFound_cuts progress opened awaited (by rcases running with h | h <;> simp [h])]
    exact finishOwnFrame_notOff (by rcases running with h | h <;> simp [h])
  · intro b q ns taken
    have taken' : QueueTakesEchoLoss { own with comparison := .echoLost } b q ns := taken
    have ends := (echoLossFound_cuts progress opened awaited (by simp [off])).trans
      (finishOwnFrame_ends (own := { own with comparison := .echoLost }) (o := .echoLost) off rfl rfl)
    exact ⟨_, exec_raised rfl hr ends, handOutcome_echoLost taken'⟩
  · exact ⟨_, exec_ldeRelease hr progress (by simp [outcomeOf, lost]) (moment.imp_right fun m => ⟨m, .inr lost⟩) rfl,
      handOutcome_echoLost taken⟩

end Sys2Proof.Machine

/-! PROOFS. What a received character and an outcome do takes no notice of the Line Interface, the host port or the count of
collisions: operation by operation, for the echo comparison (R24, R25). -/

namespace Sys2Proof.Machine

variable {F G : State → State}

/-- The state `s` with this Line Interface, this host port and this count of collisions. -/
def withLine (l : LineInterface) (p : HostPort) (n : Nat) (s : State) : State :=
  { s with lif := l, hpt := p, counters := { s.counters with collisions := n } }

/-- `F` neither reads nor changes the Line Interface, the host port or the count of collisions. -/
def Ignores (F : State → State) : Prop := ∀ l p n s, F (withLine l p n s) = withLine l p n (F s)

/-! ### How operations are put together -/

theorem Ignores.id : Ignores fun s => s := fun _ _ _ _ => rfl

theorem Ignores.comp (hF : Ignores F) (hG : Ignores G) : Ignores fun s => F (G s) :=
  fun l p n s => (congrArg F (hG l p n s)).trans (hF l p n (G s))

theorem Ignores.ite {c : State → Prop} [DecidablePred c] (hc : ∀ l p n s, c (withLine l p n s) ↔ c s) (hF : Ignores F)
    (hG : Ignores G) : Ignores fun s => if c s then F s else G s := by
  intro l p n s
  by_cases h : c s
  · simp only [(hc l p n s).2 h, h, if_true, hF l p n s]
  · have h' : ¬ c (withLine l p n s) := fun x => h ((hc l p n s).1 x)
    simp only [h', h, if_false, hG l p n s]

/-- An operation that takes a value read from the state. -/
theorem Ignores.reads {α : Type} {a : State → α} {H : α → State → State} (ha : ∀ l p n s, a (withLine l p n s) = a s)
    (hH : ∀ x, Ignores (H x)) : Ignores fun s => H (a s) s := by
  intro l p n s
  dsimp only
  rw [ha l p n s, hH]


/-! ### Notices, the monitor and the pool -/

theorem offerNotice_ignores (n : Notice) : Ignores (offerNotice n) :=
  .ite (fun _ _ _ _ => Iff.rfl) (fun _ _ _ _ => rfl) (fun _ _ _ _ => rfl)

theorem judgeFill_ignores : Ignores judgeFill :=
  .ite (fun _ _ _ _ => Iff.rfl)
    (.ite (fun _ _ _ _ => Iff.rfl)
      (.reads (a := fun s => (plainNotice .relieved s.rxp.fill, monitorRelief (isActive s) s.cgm))
        (H := fun x s => offerNotice x.1 (setMonitor x.2 s)) (fun _ _ _ _ => rfl)
        fun x => (offerNotice_ignores x.1).comp fun _ _ _ _ => rfl) .id)
    (.ite (fun _ _ _ _ => Iff.rfl)
      (.reads (a := fun s => (plainNotice .congested s.rxp.fill, monitorOnset (isActive s) (refreshLoad s.stc.config) s.cgm))
        (H := fun x s => offerNotice x.1 (setMonitor x.2 s)) (fun _ _ _ _ => rfl)
        fun x => (offerNotice_ignores x.1).comp fun _ _ _ _ => rfl) .id)

theorem storeFrame_ignores (broadcast : Bool) (f : GoodFrame) : Ignores (storeFrame broadcast f) :=
  judgeFill_ignores.comp fun _ _ _ _ => rfl

theorem admitBroadcast_ignores (f : GoodFrame) : Ignores (admitBroadcast f) :=
  .ite (fun _ _ _ _ => Iff.rfl)
    (.ite (fun _ _ _ _ => Iff.rfl) (storeFrame_ignores true f) (fun _ _ _ _ => rfl)) .id

/-! ### The acceptance decision -/

theorem setLastReceived_ignores (source seq : Byte) : Ignores (setLastReceived source seq) := by
  unfold setLastReceived
  cases recordOf source with
  | none => exact .id
  | some p => exact .ite (fun _ _ _ _ => Iff.rfl) (fun _ _ _ _ => rfl) .id

theorem applyDecision_ignores (f : GoodFrame) (r : ReplyResult) : Ignores (applyDecision f r) := by
  cases r with
  | duplicate => exact fun _ _ _ _ => rfl
  | taken => exact (storeFrame_ignores false f).comp (setLastReceived_ignores f.source f.seq)
  | full => exact .id

theorem createReply_ignores (f : GoodFrame) (r : ReplyResult) : Ignores (createReply f r) := by
  intro l p n s
  rw [createReply_eq, createReply_eq]
  rfl

theorem acceptUnicast_ignores (f : GoodFrame) : Ignores (acceptUnicast f) :=
  .ite (fun _ _ _ _ => Iff.rfl)
    (.reads (a := decision f) (H := fun r s => createReply f r (applyDecision f r s)) (fun _ _ _ _ => rfl)
      fun r => (createReply_ignores f r).comp (applyDecision_ignores f r)) .id

/-! ### Last sender -/

theorem ladderUnknown_ignores : Ignores ladderUnknown :=
  .ite (fun _ _ _ _ => Iff.rfl) (fun _ _ _ _ => rfl) .id

theorem ladderHeard_ignores (source : Nat) : Ignores (ladderHeard source) :=
  .ite (fun _ _ _ _ => Iff.rfl)
    (Ignores.comp (F := learned) (.ite (fun _ _ _ _ => Iff.rfl) (fun _ _ _ _ => rfl) .id) fun _ _ _ _ => rfl) .id

theorem ladderFrame_ignores (f : GoodFrame) : Ignores (ladderFrame f) :=
  .ite (fun _ _ _ _ => Iff.rfl) (ladderHeard_ignores _) .id

theorem handMismatch_ignores (f : GoodFrame) : Ignores (handMismatch f) :=
  .ite (fun _ _ _ _ => Iff.rfl) (ladderUnknown_ignores.comp (offerNotice_ignores _)) .id

/-! ### The Peer Table -/

theorem refreshPresence_ignores (p : Fin 32) : Ignores (refreshPresence p) :=
  .ite (fun _ _ _ _ => Iff.rfl) (fun _ _ _ _ => rfl) ((offerNotice_ignores _).comp fun _ _ _ _ => rfl)

theorem pausePeer_ignores (p : Fin 32) (cause : PauseCause) : Ignores (pausePeer p cause) :=
  .ite (fun _ _ _ _ => Iff.rfl) (fun _ _ _ _ => rfl) ((offerNotice_ignores _).comp fun _ _ _ _ => rfl)

theorem resumePeer_ignores (p : Fin 32) (cause : ResumeCause) : Ignores (resumePeer p cause) :=
  .ite (fun _ _ _ _ => Iff.rfl) ((offerNotice_ignores _).comp fun _ _ _ _ => rfl) .id

theorem kindClaims_ignores (p : Fin 32) (f : GoodFrame) : Ignores (kindClaims p f) := by
  unfold kindClaims
  cases f.kind with
  | pause => exact pausePeer_ignores p _
  | resume => exact resumePeer_ignores p _
  | beacon => exact .ite (fun _ _ _ _ => Iff.rfl) ((resumePeer_ignores p _).comp fun _ _ _ _ => rfl) .id
  | data => exact .id
  | ack => exact .id

theorem peerFrame_ignores (f : GoodFrame) : Ignores (peerFrame f) := by
  unfold peerFrame
  cases recordOf f.source with
  | none => exact .id
  | some p => exact .ite (fun _ _ _ _ => Iff.rfl) ((kindClaims_ignores p f).comp (refreshPresence_ignores p)) .id

theorem peerFull_ignores (dest : Byte) : Ignores (peerFull dest) := by
  unfold peerFull
  cases recordOf dest with
  | none => exact .id
  | some p => exact .ite (fun _ _ _ _ => Iff.rfl) (pausePeer_ignores p _) .id

/-! ### The Transmit Queue -/

theorem completeEntry_ignores (h : Fin 16) (e : Entry) (o : EntryOutcome) : Ignores (completeEntry h e o) :=
  (offerNotice_ignores _).comp fun _ _ _ _ => rfl

theorem failAttempt_ignores (h : Fin 16) (e : Entry) (o : Option EntryOutcome) : Ignores (failAttempt h e o) := by
  unfold failAttempt
  refine .ite (fun _ _ _ _ => Iff.rfl) (completeEntry_ignores h e _) ?_
  cases o with
  | none => exact fun _ _ _ _ => rfl
  | some o => exact completeEntry_ignores h e o

theorem replyOutcome_ignores (h : Fin 16) (o : ReplyOutcome) : Ignores (replyOutcome h o) := by
  intro l p n s
  unfold replyOutcome
  simp only [show (withLine l p n s).txq = s.txq from rfl]
  cases s.txq.entries[h] with
  | none => rfl
  | some e =>
    dsimp only
    split
    case isFalse => rfl
    case isTrue =>
      cases o with
      | taken => exact (completeEntry_ignores h e .sentTaken).comp (G := setCurrent none) (fun _ _ _ _ => rfl) l p n s
      | duplicate => exact (completeEntry_ignores h e .sentDuplicate).comp (G := setCurrent none) (fun _ _ _ _ => rfl) l p n s
      | full => exact (failAttempt_ignores h e none).comp (G := setCurrent none) (fun _ _ _ _ => rfl) l p n s
      | noReply =>
        exact (failAttempt_ignores h _ (limitOutcome .failedNoReply (e.attempts + 1) s.stc.config.retryLimit)).comp
          (G := setCurrent none) (fun _ _ _ _ => rfl) l p n s

/-! ### The reply wait, and the end of an attempt -/

theorem endWait_ignores (w : ReplyWait) (o : ReplyOutcome) : Ignores (endWait w o) := by
  have absent : Ignores fun s => { s with rpu := { s.rpu with wait := none } } := fun _ _ _ _ => rfl
  cases o with
  | noReply =>
    exact (replyOutcome_ignores w.handle .noReply).comp (G := fun s => { s with
      rpu := { s.rpu with wait := none },
      counters := { s.counters with noReplies := countUp s.counters.noReplies } }) fun _ _ _ _ => rfl
  | full => exact (replyOutcome_ignores w.handle .full).comp ((peerFull_ignores w.dest).comp absent)
  | taken => exact (replyOutcome_ignores w.handle .taken).comp absent
  | duplicate => exact (replyOutcome_ignores w.handle .duplicate).comp absent

/-- An operation on the reply wait, if one is open. -/
theorem Ignores.onWait {H : ReplyWait → State → State} (hH : ∀ w, Ignores (H w)) :
    Ignores fun s => match s.rpu.wait with
      | some w => H w s
      | none => s := by
  intro l p n s
  simp only [show (withLine l p n s).rpu = s.rpu from rfl]
  cases s.rpu.wait with
  | none => rfl
  | some w => exact hH w l p n s

theorem waitGood_ignores (f : GoodFrame) : Ignores (waitGood f) :=
  .onWait fun w => .reads (a := judgeReply w f) (fun _ _ _ _ => rfl) (endWait_ignores w)

theorem waitBad_ignores : Ignores waitBad := .onWait fun w => endWait_ignores w .noReply

theorem waitNoise_ignores : Ignores waitNoise :=
  .onWait fun w => .ite (fun _ _ _ _ => Iff.rfl) .id (endWait_ignores w .noReply)

theorem leaveCompletion_ignores : Ignores leaveCompletion := (offerNotice_ignores _).comp fun _ _ _ _ => rfl

theorem attemptEnded_ignores : Ignores attemptEnded := .ite (fun _ _ _ _ => Iff.rfl) leaveCompletion_ignores .id

theorem Ignores.afterWait (hF : Ignores F) : Ignores fun s => afterWait s (F s) := by
  intro l p n s
  unfold Machine.afterWait
  dsimp only
  rw [hF l p n s]
  exact Ignores.ite (c := fun _ => (s.rpu.wait.isSome && (F s).rpu.wait.isNone) = true) (fun _ _ _ _ => Iff.rfl)
    attemptEnded_ignores .id l p n (F s)

/-! ### The Frame Receiver -/

theorem abandonReply_ignores : Ignores abandonReply := by
  intro l p n s
  rw [abandonReply_eq, abandonReply_eq]
  rfl

theorem handNoise_ignores : Ignores handNoise :=
  waitNoise_ignores.afterWait.comp (abandonReply_ignores.comp (ladderUnknown_ignores.comp
    (G := fun s => { s with counters := { s.counters with noise := countUp s.counters.noise } }) fun _ _ _ _ => rfl))

theorem handBad_ignores (cause : BadCause) : Ignores (handBad cause) :=
  waitBad_ignores.afterWait.comp (abandonReply_ignores.comp (ladderUnknown_ignores.comp
    (G := fun s => { s with counters := s.counters.countBad cause }) fun _ _ _ _ => by cases cause <;> rfl))

theorem handLead_ignores : Ignores handLead :=
  Ignores.comp (F := waitLead) (.onWait fun _ _ _ _ _ => rfl) abandonReply_ignores

theorem handClash_ignores (f : GoodFrame) : Ignores (handClash f) :=
  (waitGood_ignores f).afterWait.comp (Ignores.comp
    (F := fun s => if f.kind = .ack then s else ladderHeard s.stc.config.ownNumber s)
    (.ite (fun _ _ _ _ => Iff.rfl) .id (.reads (a := fun s => s.stc.config.ownNumber) (fun _ _ _ _ => rfl)
      ladderHeard_ignores))
    (offerNotice_ignores _))

theorem handOthers_ignores (f : GoodFrame) : Ignores (handOthers f) :=
  Ignores.comp (F := fun s => Machine.afterWait s (admitBroadcast f (acceptUnicast f (waitGood f s))))
    (Ignores.afterWait (F := fun s => admitBroadcast f (acceptUnicast f (waitGood f s)))
      ((admitBroadcast_ignores f).comp ((acceptUnicast_ignores f).comp (waitGood_ignores f))))
    ((peerFrame_ignores f).comp ((ladderFrame_ignores f).comp (handMismatch_ignores f)))

theorem handGood_ignores (f : GoodFrame) : Ignores (handGood f) :=
  Ignores.comp (F := fun s => if (joined s && f.source = ownByte s) = true then handClash f s else handOthers f s)
    (G := fun s => { s with counters := { s.counters with goodFrames := countUp s.counters.goodFrames } })
    (.ite (fun _ _ _ _ => Iff.rfl) (handClash_ignores f) (handOthers_ignores f)) fun _ _ _ _ => rfl

theorem handPassed_ignores (a : Assembly) (f : GoodFrame) : Ignores (handPassed a f) :=
  .ite (fun _ _ _ _ => Iff.rfl)
    (.ite (fun _ _ _ _ => Iff.rfl) (.ite (fun _ _ _ _ => Iff.rfl) (handClash_ignores f) .id) .id) (handGood_ignores f)

theorem failFrame_ignores (a : Assembly) (cause : BadCause) (next : FrameReceiver) : Ignores (failFrame a cause next) :=
  Ignores.comp (F := fun s => if a.ownMark = true then s else handBad cause s) (G := setReceiver next)
    (.ite (fun _ _ _ _ => Iff.rfl) .id (handBad_ignores cause)) fun _ _ _ _ => rfl

theorem passFrame_ignores (a : Assembly) : Ignores (passFrame a) := by
  unfold passFrame
  cases goodFrameOf a with
  | none => exact fun _ _ _ _ => rfl
  | some f => exact (handPassed_ignores a f).comp (G := setReceiver .awaitSync) fun _ _ _ _ => rfl

theorem takeInFrame_ignores (a : Assembly) (value : Byte) (stop : Bool) : Ignores (takeInFrame a value stop) := by
  unfold takeInFrame
  cases takeCharacter a value stop with
  | goesOn a' => exact fun _ _ _ _ => rfl
  | fails cause => exact failFrame_ignores a cause _
  | failsAtEnd cause => exact failFrame_ignores a cause _
  | passes => exact passFrame_ignores a

theorem takeSync_ignores (value : Byte) (stop lde : Bool) : Ignores (takeSync value stop lde) :=
  .ite (fun _ _ _ _ => Iff.rfl)
    (Ignores.comp (F := fun s => if lde = true then s else handLead s) (G := setReceiver (.inFrame (newAssembly lde)))
      (.ite (fun _ _ _ _ => Iff.rfl) .id handLead_ignores) fun _ _ _ _ => rfl) handNoise_ignores

/-- The Frame Receiver takes a character whatever the line, the port and the count of collisions (R8 to R12). -/
theorem receiveCharacter_ignores (value : Byte) (stop lde : Bool) : Ignores (receiveCharacter value stop lde) := by
  intro l p n s
  unfold receiveCharacter
  simp only [show (withLine l p n s).frx = s.frx from rfl]
  cases s.frx with
  | awaitSync => exact takeSync_ignores value stop lde l p n s
  | inFrame a => exact takeInFrame_ignores a value stop l p n s
  | draining => rfl

/-! ### The outcome of an own frame -/

theorem ladderOutcome_ignores (kind : FrameKind) (o : OwnOutcome) : Ignores (ladderOutcome kind o) := by
  cases o with
  | clean => exact .ite (fun _ _ _ _ => Iff.rfl) (fun _ _ _ _ => rfl) .id
  | collided => exact ladderUnknown_ignores
  | echoLost => exact ladderUnknown_ignores

theorem peerOutcome_ignores (o : OwnOutcome) : Ignores (peerOutcome o) :=
  .ite (fun _ _ _ _ => Iff.rfl) (fun _ _ _ _ => rfl) .id

theorem entryOutcome_ignores (h : Fin 16) (e : Entry) (o : OwnOutcome) : Ignores (entryOutcome h e o) := by
  cases o with
  | clean =>
    exact .ite (fun _ _ _ _ => Iff.rfl)
      (Ignores.comp (F := setCurrent none) (fun _ _ _ _ => rfl) (completeEntry_ignores h e _)) fun _ _ _ _ => rfl
  | collided =>
    exact .reads (a := fun s => s.stc.config.collisionLimit)
      (H := fun limit s => failAttempt h { e with collisions := e.collisions + 1 }
        (limitOutcome .failedCollisions (e.collisions + 1) limit) (setCurrent none s)) (fun _ _ _ _ => rfl)
      fun limit => (failAttempt_ignores h _ _).comp fun _ _ _ _ => rfl
  | echoLost => exact (failAttempt_ignores h e none).comp (G := setCurrent none) fun _ _ _ _ => rfl

theorem currentOutcome_ignores (o : OwnOutcome) : Ignores (currentOutcome o) := by
  intro l p n s
  unfold currentOutcome
  simp only [show (withLine l p n s).txq = s.txq from rfl]
  cases s.txq.current with
  | none => rfl
  | some c =>
    cases c with
    | announcement a => rfl
    | beacon j => cases o <;> rfl
    | entry h =>
      dsimp only
      cases s.txq.entries[h] with
      | none => rfl
      | some e =>
        exact Ignores.ite (c := fun _ => e.state = .onLine) (fun _ _ _ _ => Iff.rfl) (entryOutcome_ignores h e o) .id l p n s

theorem requesterOutcome_ignores (own : OwnFrame) (o : OwnOutcome) : Ignores (requesterOutcome own o) := by
  intro l p n s
  cases hr : own.requester with
  | transmitQueue =>
    rw [requesterOutcome_queue hr, requesterOutcome_queue hr]
    exact currentOutcome_ignores o l p n s
  | replyUnit =>
    rw [requesterOutcome_reply hr, requesterOutcome_reply hr]
    rfl

theorem monitorOutcome_ignores (kind : FrameKind) (o : OwnOutcome) : Ignores (monitorOutcome kind o) := by
  refine .ite (fun _ _ _ _ => Iff.rfl) ?_ .id
  cases kind <;> exact fun _ _ _ _ => rfl

theorem enterHalted_ignores (kind : FrameKind) : Ignores (enterHalted kind) :=
  .reads (a := fun s => s.stc.station)
    (H := fun st s => offerNotice { kind := .halted, subject := byteOf st.code, detail := byteOf kind.code }
      (setStation .halted none (monitorWithdraw s))) (fun _ _ _ _ => rfl)
    fun _ => (offerNotice_ignores _).comp fun _ _ _ _ => rfl

theorem enterActive_ignores : Ignores enterActive :=
  .reads (a := fun s => s.stc.config)
    (H := fun c s => offerNotice { kind := .joined, subject := byteOf c.ownNumber, detail := byteOf c.ladderSize }
      (monitorEntersActive (setStation .active none s))) (fun _ _ _ _ => rfl)
    fun _ => (offerNotice_ignores _).comp
      (Ignores.comp (F := monitorEntersActive) (.ite (fun _ _ _ _ => Iff.rfl) (fun _ _ _ _ => rfl) .id) fun _ _ _ _ => rfl)

theorem stationOutcome_ignores (own : OwnFrame) (o : OwnOutcome) (ended : Bool) : Ignores (stationOutcome own o ended) := by
  cases o with
  | clean =>
    exact .ite (fun _ _ _ _ => Iff.rfl) attemptEnded_ignores (.ite (fun _ _ _ _ => Iff.rfl) enterActive_ignores .id)
  | collided => exact .ite (fun _ _ _ _ => Iff.rfl) attemptEnded_ignores .id
  | echoLost => exact .ite (fun _ _ _ _ => Iff.rfl) (enterHalted_ignores own.kind) .id

/-- An outcome is taken whatever the line, the port and the count of collisions (R27). -/
theorem handOutcome_ignores (own : OwnFrame) (o : OwnOutcome) : Ignores (handOutcome own o) := by
  intro l p n s
  have claims := (peerOutcome_ignores o).comp (ladderOutcome_ignores own.kind o) l p n s
  have after := (monitorOutcome_ignores own.kind o).comp (requesterOutcome_ignores own o) l p n
    (peerOutcome o (ladderOutcome own.kind o s))
  dsimp only at claims after
  unfold handOutcome
  rw [claims]
  dsimp only
  rw [after]
  exact stationOutcome_ignores own o _ l p n _

end Sys2Proof.Machine

/-! PROOFS. The echo comparison (R24, R25): the Frame Receiver takes the character first, then the echo is judged, and a frame
that ends with it has its outcome (R27; log entry 16). -/

namespace Sys2Proof.Machine

variable {s t : State} {F : State → State} {own : OwnFrame} {value : Byte} {stop lde : Bool}

/-! ### An operation that ignores the line (R13, R19) -/

theorem Ignores.keeps (h : Ignores F) (s : State) : (F s).lif = s.lif ∧ (F s).hpt = s.hpt ∧
    (F s).counters.collisions = s.counters.collisions := by
  have self : F s = withLine s.lif s.hpt s.counters.collisions (F s) := h s.lif s.hpt s.counters.collisions s
  rw [self]
  exact ⟨rfl, rfl, rfl⟩

theorem Ignores.setLine (h : Ignores F) (l : LineInterface) (s : State) :
    F (Machine.setLine l s) = Machine.setLine l (F s) := by
  obtain ⟨-, port, collisions⟩ := h.keeps s
  have commutes : F (Machine.setLine l s) = withLine l s.hpt s.counters.collisions (F s) :=
    h l s.hpt s.counters.collisions s
  rw [commutes, ← port, ← collisions]
  rfl

/-- ATTN settles alike whatever the line, and whatever ATTN stood at. -/
theorem settleAttn_withLine (l : LineInterface) (b : Bool) (s : State) :
    settleAttn (withLine l { s.hpt with attn := b } s.counters.collisions s) = { settleAttn s with lif := l } := rfl

/-! ### A character while the comparison is OPEN (R24, R25) -/

theorem exec_characterComplete (hr : running s = true) {d : Nat} (receiving : s.lif.receiver = .inCharacter lde d) :
    exec (.characterComplete value stop) s = .next (settleAttn (finishOwnFrame (compareEcho value stop
      (receiveCharacter value stop lde (characterHeard stop s))))) := by
  refine exec_raised rfl hr ?_
  simp only [characterCompletes, receiving]
  rfl

theorem compareEcho_equal {c : EchoCharacter} {rest : List EchoCharacter} (progress : s.lif.own = some own)
    (opened : own.comparison = .opened) (echo : s.lif.echo = c :: rest) (equal : c.value = value) (good : stop = true) :
    compareEcho value stop s = setLine ({ s.lif with echo := rest }).settle s := by
  simp only [compareEcho, progress, opened, echo, if_true, equal, good, decide_true, Bool.and_self]

theorem compareEcho_differs (progress : s.lif.own = some own) (opened : own.comparison = .opened)
    (differs : (∃ c rest, s.lif.echo = c :: rest ∧ (c.value ≠ value ∨ stop = false)) ∨
      (s.lif.echo = [] ∧ (s.lif.transmitter = .lead ∨ s.lif.transmitter = .sending))) :
    compareEcho value stop s = collide s := by
  rcases differs with ⟨c, rest, echo, differs⟩ | ⟨echo, moving⟩
  · have unequal : ¬ (decide (c.value = value) && stop) = true := by
      rw [Bool.and_eq_true, decide_eq_true_eq]
      rintro ⟨equal, good⟩
      rcases differs with h | h
      · exact h equal
      · simp [good] at h
    simp only [compareEcho, progress, opened, echo, if_true]
    exact if_neg unequal
  · rcases moving with h | h <;> simp only [compareEcho, progress, opened, echo, if_true, h]

theorem settle_waits {l : LineInterface} (h : l.transmitter = .lead ∨ l.transmitter = .sending ∨ l.echo ≠ []) :
    l.settle = l := by
  refine if_neg ?_
  simp only [LineInterface.allEchoed, Bool.and_eq_true, List.isEmpty_iff, Bool.or_eq_true, decide_eq_true_eq]
  rintro ⟨empty, ended⟩
  rcases h with h | h | h
  · simp [h] at ended
  · simp [h] at ended
  · exact h empty

theorem settle_clean {l : LineInterface} (progress : l.own = some own)
    (ended : l.transmitter = .trailing ∨ l.transmitter = .off) (empty : l.echo = []) :
    l.settle = { l with own := some { own with comparison := .settledClean } } := by
  have all : l.allEchoed = true := by
    rcases ended with h | h <;> simp [LineInterface.allEchoed, empty, h]
  rw [LineInterface.settle, if_pos all, LineInterface.judged, progress]
  rfl

theorem cut_begun {l : LineInterface} (progress : l.own = some own) (begun : l.transmitter ≠ .lead) (c : Comparison) :
    l.cut c = { l with own := some { own with comparison := c }, echo := [], toSend := [] } := by
  simp [LineInterface.cut, LineInterface.judged, progress, begun]

theorem cut_lead {l : LineInterface} (progress : l.own = some own) (lead : l.transmitter = .lead) (c : Comparison) :
    l.cut c = { l with own := some { own with comparison := c }, echo := [], toSend := [], transmitter := .off, lde := false,
                       bitTimer := 0, sending := none } := by
  simp [LineInterface.cut, LineInterface.judged, progress, lead]

/-- A frame that ends has the outcome that a release of LDE would hand on, ATTN and the line aside (R27). -/
theorem handOutcome_asRelease {c : Comparison} {o : OwnOutcome} (judged : outcomeOf c = some o) (x : State) (b : Bool)
    (hr : running x = true) (l l' : LineInterface) (toSend : List Byte) :
    ∃ u, exec .ldeRelease (withLine { l' with
        own := some { own with comparison := c }, transmitter := .trailing, echo := [], toSend := toSend }
        { x.hpt with attn := b } x.counters.collisions x) = .next u ∧
      settleAttn (handOutcome { own with comparison := c } o (Machine.setLine l x)) =
        { u with lif := (settleAttn (handOutcome { own with comparison := c } o (Machine.setLine l x))).lif } := by
  obtain ⟨-, port, collisions⟩ := (handOutcome_ignores { own with comparison := c } o).keeps x
  have run := exec_ldeRelease (s := withLine { l' with
        own := some { own with comparison := c }, transmitter := .trailing, echo := [], toSend := toSend }
        { x.hpt with attn := b } x.counters.collisions x) hr rfl judged (.inl rfl)
    (handOutcome_ignores { own with comparison := c } o _ { x.hpt with attn := b } x.counters.collisions x)
  rw [← port, ← collisions, settleAttn_withLine] at run
  rw [(handOutcome_ignores { own with comparison := c } o).setLine]
  rw [← port, ← collisions]
  exact ⟨_, run, rfl⟩

/-- The Frame Receiver and the count at a collision (R25). -/
def struckBy (s : State) : State :=
  { s with frx := s.frx.atCollision, counters := { s.counters with collisions := oneMore s.counters.collisions } }

theorem collide_eq (s : State) : collide s = Machine.setLine (s.lif.cut .collided) (struckBy s) := rfl

theorem collide_lif (s : State) : (collide s).lif = s.lif.cut .collided := rfl

/-- A collision that ends the own frame (R25, R27). -/
theorem collision_ends (g : State) (hr : running g = true) (l l' : LineInterface) (off : l.transmitter = .off)
    (progress : l.own = some { own with comparison := .collided }) :
    (settleAttn (finishOwnFrame (Machine.setLine l (struckBy g)))).lif = { l with own := none } ∧
    ∃ u, exec .ldeRelease { settleAttn (Machine.setLine l' (struckBy g)) with lif := { l' with
        own := some { own with comparison := .collided }, transmitter := .trailing, echo := [], toSend := [] } } = .next u ∧
      settleAttn (finishOwnFrame (Machine.setLine l (struckBy g))) =
        { u with lif := (settleAttn (finishOwnFrame (Machine.setLine l (struckBy g)))).lif } := by
  rw [finishOwnFrame_ends (s := Machine.setLine l (struckBy g)) (own := { own with comparison := .collided })
    (o := .collided) off progress rfl]
  exact ⟨((handOutcome_ignores { own with comparison := .collided } .collided).keeps _).1,
    handOutcome_asRelease (own := own) (c := .collided) rfl (struckBy g) (attnLevel g) hr { l with own := none } l' []⟩

/-- Settles O39: the Frame Receiver's part is that of the run with no own frame; then the echo by its value and the
transmitter's state. -/
theorem echoComparison : Obligations.EchoComparison := by
  refine ⟨⟨fun a => rfl, rfl, rfl⟩, fun s value stop lde d own hr receiving progress opened => ?_⟩
  have ignores := receiveCharacter_ignores value stop lde
  obtain ⟨line, port, collisions⟩ := ignores.keeps (characterHeard stop s)
  have without := characterComplete_notComparing (s := { s with lif := { s.lif with own := none } }) (value := value)
    (stop := stop) hr (fun o ho => by cases ho) receiving
  rw [show characterHeard stop { s with lif := { s.lif with own := none } } =
    Machine.setLine { (characterHeard stop s).lif with own := none } (characterHeard stop s) from rfl,
    ignores.setLine] at without
  have run := exec_characterComplete (value := value) (stop := stop) hr receiving
  have pins : (receiveCharacter value stop lde (characterHeard stop s)).pins = s.pins := by simp [characterHeard]
  generalize receiveCharacter value stop lde (characterHeard stop s) = g at *
  have progress' : g.lif.own = some own := by rw [line]; exact progress
  have transmits : g.lif.transmitter = s.lif.transmitter := by rw [line]; rfl
  have awaits : g.lif.echo = s.lif.echo := by rw [line]; rfl
  have sends : g.lif.toSend = s.lif.toSend := by rw [line]; rfl
  have count : g.counters.collisions = s.counters.collisions := collisions
  have hr' : running g = true := by rw [running, pins]; exact hr
  refine ⟨_, _, without, run, ?_⟩
  rw [← line]
  dsimp only
  refine ⟨fun c rest echo equal good => ?_, fun differs => ?_⟩
  · rw [compareEcho_equal progress' opened (awaits.trans echo) equal good]
    refine ⟨?_, fun waits => ?_, fun trailing empty => ?_, fun off empty => ?_⟩
    · have outcome : ∀ x : LineInterface, (finishOwnFrame (Machine.setLine x g)).counters.collisions =
          s.counters.collisions := by
        intro x
        unfold finishOwnFrame
        split
        · exact ((handOutcome_ignores _ _).keeps _).2.2.trans count
        · exact count
      exact outcome _
    · have settles : ({ g.lif with echo := rest } : LineInterface).settle = { g.lif with echo := rest } :=
        settle_waits (by rw [← transmits] at waits; exact waits)
      rw [settles, finishOwnFrame_opened (s := Machine.setLine { g.lif with echo := rest } g)
        (fun o ho => Option.some.inj (progress'.symm.trans ho) ▸ opened)]
      exact ⟨rfl, rfl⟩
    · have settles := settle_clean (l := { g.lif with echo := rest }) progress' (.inl (transmits.trans trailing)) empty
      rw [settles, finishOwnFrame_notOff (s := Machine.setLine { g.lif with
        echo := rest, own := some { own with comparison := .settledClean } } g)
        (by rw [setLine_lif]; simp [transmits, trailing]), empty]
      exact ⟨rfl, rfl⟩
    · have settles := settle_clean (l := { g.lif with echo := rest }) progress' (.inr (transmits.trans off)) empty
      rw [settles, finishOwnFrame_ends (s := Machine.setLine { g.lif with
        echo := rest, own := some { own with comparison := .settledClean } } g)
        (own := { own with comparison := .settledClean }) (o := .clean) (transmits.trans off) rfl rfl, empty]
      have release := handOutcome_asRelease (own := own) (c := .settledClean) rfl g (attnLevel g) hr'
        { g.lif with echo := [], own := none } { g.lif with own := none } s.lif.toSend
      have kept := ((handOutcome_ignores { own with comparison := .settledClean } .clean).keeps
        (Machine.setLine { g.lif with echo := [], own := none } g)).1
      exact ⟨kept, release⟩
  · rw [compareEcho_differs progress' opened (by rw [awaits, transmits]; exact differs)]
    refine ⟨?_, fun moving => ?_, fun lead => ?_, fun off => ?_⟩
    · have outcome : (finishOwnFrame (collide g)).counters.collisions = (collide g).counters.collisions := by
        unfold finishOwnFrame
        split
        · exact ((handOutcome_ignores _ _).keeps _).2.2
        · rfl
      exact outcome.trans (congrArg oneMore count)
    · rw [finishOwnFrame_notOff (s := collide g) (by
        rw [collide_lif, cut_begun progress' (by rw [transmits]; rcases moving with h | h <;> simp [h])]
        rcases moving with h | h <;> simp [transmits, h])]
      rw [collide_eq, cut_begun progress' (by rw [transmits]; rcases moving with h | h <;> simp [h])]
      exact ⟨rfl, rfl⟩
    · rw [collide_eq, cut_lead progress' (transmits.trans lead)]
      exact collision_ends g hr' _ _ rfl rfl
    · rw [collide_eq, cut_begun progress' (by simp [transmits, off])]
      exact collision_ends g hr' _ _ (transmits.trans off) rfl

end Sys2Proof.Machine

/-! PROOFS. The tick event (R17, R18): what the records that expire at it become, whatever their order (log entry 5), and the
other slow timers. -/

namespace Sys2Proof.Machine

variable {s t : State}

/-! ### Notices offered one after the other -/

theorem OfferedInOrder.congr {ns : List Notice} {s' : State} (h : OfferedInOrder ns s t) (notices : s'.notices = s.notices)
    (counters : s'.counters = s.counters) : OfferedInOrder ns s' t := by
  cases ns with
  | nil => exact ⟨h.1.trans notices.symm, h.2.trans counters.symm⟩
  | cons n rest =>
    obtain ⟨v, first, others⟩ := h
    exact ⟨v, first.congr notices counters, others⟩

theorem OfferedInOrder.congr_after {ns : List Notice} {t' : State} (h : OfferedInOrder ns s t)
    (notices : t'.notices = t.notices) (counters : t'.counters = t.counters) : OfferedInOrder ns s t' := by
  induction ns generalizing s with
  | nil => exact ⟨notices.trans h.1, counters.trans h.2⟩
  | cons n rest ih =>
    obtain ⟨v, first, others⟩ := h
    exact ⟨v, first, ih others⟩

theorem OfferedInOrder.append {xs ys : List Notice} {v : State} (h : OfferedInOrder xs s v) (h' : OfferedInOrder ys v t) :
    OfferedInOrder (xs ++ ys) s t := by
  induction xs generalizing s with
  | nil => exact h'.congr h.1.symm h.2.symm
  | cons n rest ih =>
    obtain ⟨w, first, others⟩ := h
    exact ⟨w, first, ih others⟩

theorem OfferedInOrder.single {n : Notice} (h : NoticeOffered n s t) : OfferedInOrder [n] s t := ⟨t, h, rfl, rfl⟩

theorem EntriesMapped.of_same (h : t.txq = s.txq) : EntriesMapped id s t := fun i => by rw [h]; simp

/-! ### One record at a tick event (R100, R105) -/

/-- A record after a tick event, its expiries included (R18, R100, R105). -/
def recordAfterTick (r : Peer) : Peer :=
  if timerExpires r.silence = true then
    { r with present := false, silence := none, paused := false, pauseTimer := none, lastReceived := none }
  else if timerExpires r.pauseTimer = true then
    { r with silence := timerAfterTick r.silence, paused := false, pauseTimer := none }
  else peerAfterTick r

/-- The tick event ends the record's pause (R100, R105). -/
def unpausedByTick (r : Peer) : Bool := r.paused && peerExpires r

/-- The notice of a record at a tick event (R100, R105). -/
def noticesAtTick (r : Peer) (p : Fin 32) : List Notice :=
  if timerExpires r.silence = true then [plainNotice .peerLost p.val]
  else if timerExpires r.pauseTimer = true ∧ r.paused = true then [resumedNotice p .expiry]
  else []

theorem timerAfterTick_expired {timer : Option Nat} (h : timerExpires timer = true) : timerAfterTick timer = none := by
  have := timerAfterTick_isSome timer
  rw [h] at this
  simpa using this

theorem expirePeer_acts {before : Vector Peer 32} {p : Fin 32} (counted : s.ptb.records[p] = peerAfterTick before[p]) :
    expirePeer before s p = { s with
        ptb := setRecord p (recordAfterTick before[p]) s.ptb,
        txq := { s.txq with entries := (expirePeer before s p).txq.entries },
        notices := (expirePeer before s p).notices, counters := (expirePeer before s p).counters } ∧
      EntriesMapped (if unpausedByTick before[p] = true then releasedBy p else id) s (expirePeer before s p) ∧
      OfferedInOrder (noticesAtTick before[p] p) s (expirePeer before s p) := by
  have paused : s.ptb.records[p].paused = before[p].paused := by rw [counted]; rfl
  unfold expirePeer recordAfterTick noticesAtTick unpausedByTick peerExpires
  by_cases silent : timerExpires before[p].silence = true
  · obtain ⟨state, entries, notice⟩ := losePeer_lost p s
    simp only [silent, if_true, Bool.true_or, Bool.and_true]
    rw [paused] at entries
    rw [counted] at state
    exact ⟨state, entries, .single notice⟩
  · by_cases pauseEnds : timerExpires before[p].pauseTimer = true
    · obtain ⟨state, report⟩ := resumePeer_eq p .expiry s
      simp only [silent, pauseEnds, if_true, Bool.or_true, Bool.and_true, true_and]
      rw [paused] at report state
      rw [counted] at state
      have timer : (peerAfterTick before[p]).pauseTimer = none := timerAfterTick_expired pauseEnds
      rw [timer, ite_self] at state
      refine ⟨state, ?_⟩
      by_cases was : before[p].paused = true
      · rw [if_pos was] at report ⊢
        rw [if_pos was]
        exact ⟨report.1, .single report.2⟩
      · rw [if_neg was] at report ⊢
        rw [if_neg was]
        exact ⟨.of_same report.1, report.2⟩
    · simp only [silent, pauseEnds, if_false, Bool.or_self, Bool.and_false, false_and, Bool.false_eq_true]
      rw [← counted, setRecord_same]
      exact ⟨rfl, fun h => by simp, rfl, rfl⟩

/-! ### The records that expire, in any order (log entry 5) -/

/-- The entries to these peers wait again, where the tick event ended the pause (R68). -/
def releasedAtTick (before : Vector Peer 32) (ps : List (Fin 32)) (e : Entry) : Entry :=
  if e.state = .held ∧ ∃ p ∈ ps, e.dest = byteOf p.val ∧ unpausedByTick before[p] = true then { e with state := .waiting }
  else e

theorem releasedAtTick_cons (before : Vector Peer 32) (p : Fin 32) (ps : List (Fin 32)) (e : Entry) :
    releasedAtTick before ps ((if unpausedByTick before[p] = true then releasedBy p else id) e) =
      releasedAtTick before (p :: ps) e := by
  unfold releasedAtTick
  simp only [List.exists_mem_cons_iff]
  generalize unpausedByTick before[p] = ended
  cases ended with
  | false => simp
  | true =>
    unfold releasedBy
    by_cases held : e.state = .held <;> by_cases dest : e.dest = byteOf p.val <;> simp [held, dest]

/-- What the expiries of these records leave (R100, R105). -/
structure RecordsExpired (before : Vector Peer 32) (ps : List (Fin 32)) (s t : State) : Prop where
  state : t = { s with
    ptb := { s.ptb with records := t.ptb.records }, txq := { s.txq with entries := t.txq.entries }, notices := t.notices,
    counters := t.counters }
  records : ∀ q : Fin 32, t.ptb.records[q] = if q ∈ ps then recordAfterTick before[q] else s.ptb.records[q]
  entries : EntriesMapped (releasedAtTick before ps) s t
  notices : OfferedInOrder (ps.flatMap fun p => noticesAtTick before[p] p) s t

theorem expirePeer_folds {before : Vector Peer 32} {ps : List (Fin 32)} (distinct : ps.Nodup)
    (counted : ∀ p ∈ ps, s.ptb.records[p] = peerAfterTick before[p]) :
    RecordsExpired before ps s (ps.foldl (expirePeer before) s) := by
  induction ps generalizing s with
  | nil =>
    refine ⟨rfl, fun q => by simp, fun h => ?_, rfl, rfl⟩
    have same : releasedAtTick before [] = id := funext fun e => by simp [releasedAtTick]
    rw [same]
    simp
  | cons p ps ih =>
    obtain ⟨fresh, distinct⟩ := List.nodup_cons.1 distinct
    obtain ⟨state, entries, notices⟩ := expirePeer_acts (counted p (by simp))
    have records : ∀ q : Fin 32, (expirePeer before s p).ptb.records[q] =
        if q = p then recordAfterTick before[p] else s.ptb.records[q] := fun q => by
      rw [state]
      exact setRecord_get p q _ _
    have next := ih (s := expirePeer before s p) distinct fun q hq => by
      rw [records q, if_neg fun (e : q = p) => fresh (e ▸ hq)]
      exact counted q (List.mem_cons_of_mem p hq)
    rw [List.foldl_cons]
    generalize ps.foldl (expirePeer before) (expirePeer before s p) = t at next ⊢
    generalize expirePeer before s p = u at *
    refine ⟨?_, fun q => ?_, fun h => ?_, ?_⟩
    · rw [next.state, state]
      rfl
    · rw [next.records q, records q]
      by_cases same : q = p
      · subst same
        simp [fresh]
      · simp [same]
    · rw [next.entries h, entries h, Option.map_map]
      exact congrArg (Option.map · _) (funext fun e => releasedAtTick_cons before p ps e)
    · exact notices.append next.notices

/-- The tick event at the records (R18, R100, R105; log entry 5). -/
theorem tickRecords_counts (s : State) :
    tickRecords s = { s with
      ptb := { s.ptb with records := (tickRecords s).ptb.records },
      txq := { s.txq with entries := (tickRecords s).txq.entries }, notices := (tickRecords s).notices,
      counters := (tickRecords s).counters, choices := (tickRecords s).choices } ∧
    (∀ q : Fin 32, (tickRecords s).ptb.records[q] = recordAfterTick s.ptb.records[q]) ∧
    EntriesMapped (releasedAtTick s.ptb.records allRecords) s (tickRecords s) ∧
    ∃ ps : List (Fin 32), ps.Nodup ∧ (∀ p, p ∈ ps ↔ peerExpires s.ptb.records[p] = true) ∧
      OfferedInOrder (ps.flatMap fun p => noticesAtTick s.ptb.records[p] p) s (tickRecords s) := by
  unfold tickRecords
  dsimp only
  have order := freeOrder_perm (fun p : Fin 32 => p.val) (allRecords.filter fun p => peerExpires s.ptb.records[p])
    { s with ptb := { s.ptb with records := mapCells peerAfterTick s.ptb.records } }
  have state := freeOrder_state (fun p : Fin 32 => p.val) (allRecords.filter fun p => peerExpires s.ptb.records[p])
    { s with ptb := { s.ptb with records := mapCells peerAfterTick s.ptb.records } }
  generalize freeOrder (fun p : Fin 32 => p.val) (allRecords.filter fun p => peerExpires s.ptb.records[p])
    { s with ptb := { s.ptb with records := mapCells peerAfterTick s.ptb.records } } = chosen at *
  obtain ⟨ps, u⟩ := chosen
  dsimp only at state order
  have mem : ∀ p, p ∈ ps ↔ peerExpires s.ptb.records[p] = true := fun p => by
    rw [order.mem_iff, List.mem_filter]
    exact and_iff_right (mem_allRecords p)
  have distinct : ps.Nodup := order.nodup_iff.2 (allRecords_nodup.filter _)
  have records : ∀ q : Fin 32, u.ptb.records[q] = peerAfterTick s.ptb.records[q] := fun q => by
    rw [show u.ptb.records = mapCells peerAfterTick s.ptb.records from congrArg (fun x => x.ptb.records) state,
      mapCells_get_fin]
  have folds := expirePeer_folds (s := u) (before := s.ptb.records) distinct fun p _ => records p
  dsimp only
  generalize ps.foldl (expirePeer s.ptb.records) u = t at *
  refine ⟨?_, fun q => ?_, fun h => ?_, ps, distinct, mem, folds.notices.congr (congrArg State.notices state).symm
    (congrArg State.counters state).symm⟩
  · rw [folds.state, state]
  · rw [folds.records q, records q]
    by_cases expires : q ∈ ps
    · rw [if_pos expires]
    · rw [if_neg expires]
      have neither : ¬ peerExpires s.ptb.records[q] = true := fun x => expires ((mem q).2 x)
      simp only [peerExpires, Bool.or_eq_true, not_or] at neither
      rw [recordAfterTick, if_neg neither.1, if_neg neither.2]
  · rw [folds.entries h, show u.txq.entries = s.txq.entries from congrArg (fun x => x.txq.entries) state]
    refine congrArg (Option.map · _) (funext fun e => ?_)
    have same : (∃ p ∈ ps, e.dest = byteOf p.val ∧ unpausedByTick s.ptb.records[p] = true) ↔
        ∃ p ∈ allRecords, e.dest = byteOf p.val ∧ unpausedByTick s.ptb.records[p] = true := by
      refine exists_congr fun p => ⟨fun h => ⟨mem_allRecords p, h.2⟩, fun h => ⟨(mem p).2 ?_, h.2⟩⟩
      have := h.2.2
      simp only [unpausedByTick, Bool.and_eq_true] at this
      exact this.2
    unfold releasedAtTick
    simp only [same]

/-! ### The other slow timers -/

theorem timerAfterTick_bind (timer : Option Nat) :
    timerAfterTick timer = timer.bind fun n => if n ≤ 1 then none else some (n - 1) := by
  cases timer <;> rfl

theorem tickBeacon_counts (s : State) : tickBeacon s = { s with
    ptb := { s.ptb with beaconTimer := timerAfterTick s.ptb.beaconTimer },
    txq := if timerExpires s.ptb.beaconTimer = true ∧ s.stc.station = .active then { s.txq with beacon := .plain }
      else s.txq } := by
  unfold tickBeacon beaconExpires
  by_cases expires : timerExpires s.ptb.beaconTimer = true
  · rw [if_pos expires, timerAfterTick_expired expires]
    by_cases active : s.stc.station = .active <;> simp [expires, active, setBeacon]
  · simp [expires]

theorem tickRefresh_counts (s : State) : tickRefresh s = { s with
    cgm := { s.cgm with
      refreshTimer := timerAfterTick s.cgm.refreshTimer,
      announcement := if timerExpires s.cgm.refreshTimer = true ∧ s.cgm.announcement = none then some .pause
        else s.cgm.announcement } } := by
  unfold tickRefresh refreshExpires setMonitor
  by_cases expires : timerExpires s.cgm.refreshTimer = true
  · rw [if_pos expires, timerAfterTick_expired expires]
    simp [expires]
  · simp [expires]

theorem tickDelivery_counts (s : State) : tickDelivery s = { s with
    rxp := { s.rxp with
      deliveryTimer := timerAfterTick s.rxp.deliveryTimer,
      stale := timerExpires s.rxp.deliveryTimer || s.rxp.stale } } := by
  unfold tickDelivery deliveryExpires setPool
  by_cases expires : timerExpires s.rxp.deliveryTimer = true
  · rw [if_pos expires, timerAfterTick_expired expires]
    simp [expires]
  · simp [expires]

/-- The state at which the tick event reaches the blocks: the tick base is 0 (R16, R17). -/
def tickBaseWrapped (s : State) : State :=
  let b := if s.lif.tickBase = 0 then s else atBoundary s
  { b with lif := { b.lif with tickBase := 0 } }

theorem tickEvent_eq (s : State) :
    tickEvent s = tickDelivery (tickRefresh (tickBeacon (tickRecords (tickBaseWrapped s)))) := by
  unfold tickEvent tickBaseWrapped
  rw [takeBitTime_eq]
  rfl

/-- The tick event by its blocks, that of the records aside (R17, R18). -/
theorem tickEvent_counts (s : State) :
    let w := tickRecords (tickBaseWrapped s)
    tickEvent s = { tickBaseWrapped s with
      ptb := { s.ptb with records := w.ptb.records, beaconTimer := timerAfterTick s.ptb.beaconTimer },
      txq := { s.txq with
        entries := w.txq.entries,
        beacon := if timerExpires s.ptb.beaconTimer = true ∧ s.stc.station = .active then .plain else s.txq.beacon },
      cgm := { s.cgm with
        refreshTimer := timerAfterTick s.cgm.refreshTimer,
        announcement := if timerExpires s.cgm.refreshTimer = true ∧ s.cgm.announcement = none then some .pause
          else s.cgm.announcement },
      rxp := { s.rxp with
        deliveryTimer := timerAfterTick s.rxp.deliveryTimer,
        stale := timerExpires s.rxp.deliveryTimer || s.rxp.stale },
      notices := w.notices, counters := w.counters, choices := w.choices } := by
  intro w
  obtain ⟨state, -, -, -⟩ := tickRecords_counts (tickBaseWrapped s)
  have start : tickBaseWrapped s = { s with lif := (tickBaseWrapped s).lif } := by
    unfold tickBaseWrapped
    by_cases h : s.lif.tickBase = 0 <;> simp [h, atBoundary]
  rw [tickEvent_eq, tickDelivery_counts, tickRefresh_counts, tickBeacon_counts]
  dsimp only [w]
  generalize tickRecords (tickBaseWrapped s) = v at *
  obtain ⟨records, entries, notices, counters, choices, rfl⟩ : ∃ records entries notices counters choices,
      v = { tickBaseWrapped s with
        ptb := { (tickBaseWrapped s).ptb with records }, txq := { (tickBaseWrapped s).txq with entries }, notices, counters,
        choices } := ⟨_, _, _, _, _, state⟩
  clear state
  generalize (tickBaseWrapped s).lif = l at start
  rw [start]
  by_cases plain : timerExpires s.ptb.beaconTimer = true ∧ s.stc.station = .active <;> simp [plain]

/-! ### The notices of the records (R100, R105) -/

theorem mem_noticesAtTick {r : Peer} {p : Fin 32} {n : Notice} : n ∈ noticesAtTick r p ↔
    (timerExpires r.silence = true ∧ n = { kind := .peerLost, subject := byteOf p.val, detail := 0 }) ∨
    (¬ timerExpires r.silence = true ∧ timerExpires r.pauseTimer = true ∧ r.paused = true ∧
      n = { kind := .peerResumed, subject := byteOf p.val, detail := 2 }) := by
  unfold noticesAtTick
  by_cases silent : timerExpires r.silence = true
  · simp [silent, plainNotice]
  · by_cases pauseEnds : timerExpires r.pauseTimer = true <;> by_cases paused : r.paused = true <;>
      simp [silent, pauseEnds, paused, resumedNotice]

theorem noticesAtTick_expires {r : Peer} {p : Fin 32} {n : Notice} (h : n ∈ noticesAtTick r p) : peerExpires r = true := by
  unfold peerExpires
  rcases mem_noticesAtTick.1 h with ⟨silent, -⟩ | ⟨-, pauseEnds, -⟩
  · simp [silent]
  · simp [pauseEnds]

theorem noticesAtTick_subject {r : Peer} {p : Fin 32} {n : Notice} (h : n ∈ noticesAtTick r p) :
    n.subject = byteOf p.val := by
  rcases mem_noticesAtTick.1 h with ⟨-, rfl⟩ | ⟨-, -, -, rfl⟩ <;> rfl

theorem byteOf_record_injective {p q : Fin 32} (h : byteOf p.val = byteOf q.val) : p = q := by
  have values := congrArg BitVec.toNat h
  rw [byteOf_toNat_of_lt (by omega), byteOf_toNat_of_lt (by omega)] at values
  exact Fin.ext values

theorem noticesAtTick_nodup (before : Vector Peer 32) {ps : List (Fin 32)} (distinct : ps.Nodup) :
    (ps.flatMap fun p => noticesAtTick before[p] p).Nodup := by
  refine List.nodup_flatMap.2 ⟨fun p _ => ?_, distinct.imp fun {p q} different => ?_⟩
  · unfold noticesAtTick
    split
    · exact List.nodup_singleton _
    · split
      · exact List.nodup_singleton _
      · exact List.nodup_nil
  · intro n hp hq
    exact different (byteOf_record_injective ((noticesAtTick_subject hp).symm.trans (noticesAtTick_subject hq)))

/-- An entry that a tick event releases is HELD to a paused peer whose pause it ends (R68). -/
theorem releasedAtTick_iff (before : Vector Peer 32) (e : Entry) :
    (e.state = .held ∧ ∃ p ∈ allRecords, e.dest = byteOf p.val ∧ unpausedByTick before[p] = true) ↔
    (e.state = .held ∧ ∃ p : Fin 32, e.dest = byteOf p.val ∧ before[p].paused = true ∧
      (timerExpires before[p].silence = true ∨ timerExpires before[p].pauseTimer = true)) := by
  refine and_congr_right fun _ => exists_congr fun p => ?_
  simp only [mem_allRecords, true_and, unpausedByTick, peerExpires, Bool.and_eq_true, Bool.or_eq_true]

/-- Settles O44: the tick event block by block, the records in any order. -/
theorem tickCountsEveryTimer : Obligations.TickCountsEveryTimer := by
  intro s hr
  refine ⟨tickEvent s, exec_raised rfl hr rfl, ?_⟩
  intro down ends b
  have downs : ∀ timer, down timer = timerAfterTick timer := fun timer => (timerAfterTick_bind timer).symm
  have ended : ∀ timer, ends timer ↔ timerExpires timer = true := fun timer => timerExpires_iff.symm
  obtain ⟨-, records, entries, ps, distinct, mem, notices⟩ := tickRecords_counts (tickBaseWrapped s)
  have event := tickEvent_counts s
  have start : tickBaseWrapped s = { s with lif := (tickBaseWrapped s).lif } := by
    unfold tickBaseWrapped
    by_cases h : s.lif.tickBase = 0 <;> simp [h, atBoundary]
  have table : (tickBaseWrapped s).ptb = s.ptb := by rw [start]
  have queue : (tickBaseWrapped s).txq = s.txq := by rw [start]
  simp only [downs, ended]
  dsimp only at event
  unfold EntriesMapped at entries
  rw [table] at records mem notices entries
  rw [queue] at entries
  generalize tickRecords (tickBaseWrapped s) = w at *
  have base : tickBaseWrapped s = { b with lif := { b.lif with tickBase := 0 } } := rfl
  refine ⟨?_, fun p => ?_, fun h e he => ?_, fun h free => ?_, ?_, ?_, ?_, ?_, ?_, ?_, ?_,
    ps.flatMap fun p => noticesAtTick s.ptb.records[p] p, noticesAtTick_nodup _ distinct, ?_, fun n => ?_⟩
  · rw [event, base]
  · rw [event]
    dsimp only
    rw [records p, recordAfterTick]
    exact ⟨fun silent => if_pos silent, fun silent pauseEnds => (if_neg silent).trans (if_pos pauseEnds),
      fun silent pauseEnds => (if_neg silent).trans (if_neg pauseEnds)⟩
  · rw [event]
    refine ⟨_, (entries h).trans (congrArg _ he), ?_, ?_⟩
    · exact fun released => if_pos ((releasedAtTick_iff _ e).2 released)
    · exact fun kept => if_neg (mt (releasedAtTick_iff _ e).1 kept)
  · rw [event]
    exact (entries h).trans (congrArg _ free)
  · rw [event]
  · rw [event]
    exact fun expires active => if_pos ⟨expires, active⟩
  · rw [event]
    exact fun other => if_neg other
  · intro expires
    rw [event]
    simp only [expires, true_and, timerAfterTick_expired expires]
  · intro expires
    rw [event]
    simp [expires]
  · intro expires
    rw [event]
    simp only [expires, Bool.true_or, timerAfterTick_expired expires]
  · intro expires
    rw [Bool.not_eq_true] at expires
    rw [event]
    simp only [expires, Bool.false_or]
  · exact (notices.congr (by rw [start]) (by rw [start])).congr_after (by rw [event]) (by rw [event])
  · simp only [List.mem_flatMap]
    exact exists_congr fun p => ⟨fun h => mem_noticesAtTick.1 h.2, fun h =>
      ⟨(mem p).2 (noticesAtTick_expires (mem_noticesAtTick.2 h)), mem_noticesAtTick.2 h⟩⟩

end Sys2Proof.Machine

/-! PROOFS. The law of the Transmit Queue in a form that holds between the parts of an event too: entry by entry, and without
LEAVING's claim that an attempt is still in flight, which its end breaks until LEAVE completes (R157, R158). -/

namespace Sys2Proof.Machine

variable {s t : State}

/-! ### The law, entry by entry -/

/-- What holds of an entry that is neither FREE nor COMPLETE. -/
structure EntrySound (s : State) (h : Fin 16) (e : Entry) : Prop where
  live : LiveEntryLaw s e
  joined : s.stc.station ≠ .unjoined
  flying : e.state.inFlight = true →
    s.txq.current = some (.entry h) ∧ s.stc.station ≠ .listening ∧ s.stc.station ≠ .announcing
  queued : e.state.isQueued = true → s.stc.station ≠ .leaving
  awaiting : e.state = .awaitingReply →
    e.dest ≠ 255 ∧ ∃ w, s.rpu.wait = some w ∧ w.handle = h ∧ w.dest = e.dest ∧ e.seq = some w.seq

/-- The own frame is the current frame, on the line, or the pending reply being sent (R22, R52, R78). -/
structure FrameSound (s : State) (o : OwnFrame) : Prop where
  chosen : o.requester = .transmitQueue →
    ∃ c, s.txq.current = some c ∧ o.kind = chosenKind c ∧ o.joining = chosenJoining c ∧
      ∀ h, c = .entry h → ∃ e, s.txq.entries[h] = some e ∧ e.state = .onLine
  reply : o.requester = .replyUnit → o.kind = .ack ∧ ∃ r, s.rpu.pending = some r ∧ r.sending = true

/-- The law of the queue without LEAVING's attempt in flight. -/
structure QueueRest (s : State) : Prop where
  entries : ∀ (h : Fin 16) (e : Entry), s.txq.entries[h] = some e → e.state.isComplete = false → EntrySound s h e
  current : ∀ h : Fin 16, s.txq.current = some (.entry h) → ∃ e, s.txq.entries[h] = some e ∧ e.state.inFlight = true
  wait : ∀ w, s.rpu.wait = some w → ∃ e, s.txq.entries[w.handle] = some e ∧ e.state = .awaitingReply
  own : ∀ o, s.lif.own = some o → FrameSound s o

theorem inFlight_incomplete {st : EntryState} (h : st.inFlight = true) : st.isComplete = false := by
  cases st <;> simp_all [EntryState.inFlight, EntryState.isComplete]

theorem isQueued_iff {st : EntryState} : st.isQueued = true ↔ st = .waiting ∨ st = .held := by
  cases st <;> simp [EntryState.isQueued]

theorem isQueued_incomplete {st : EntryState} (h : st.isQueued = true) : st.isComplete = false := by
  cases st <;> simp_all [EntryState.isQueued, EntryState.isComplete]

theorem inFlight_or_queued {st : EntryState} (h : st.isComplete = false) : st.inFlight = true ∨ st.isQueued = true := by
  cases st <;> simp_all [EntryState.inFlight, EntryState.isComplete, EntryState.isQueued]

theorem isQueued_notInFlight {st : EntryState} (h : st.isQueued = true) : st.inFlight = false := by
  cases st <;> simp_all [EntryState.inFlight, EntryState.isQueued]

theorem QueueLaw.rest (h : QueueLaw s) : QueueRest s := by
  refine ⟨fun k e he live => ⟨h.live k e he live, fun unjoined => ?_, fun flying => ⟨?_, ?_, ?_⟩, fun queued leaving => ?_,
    h.awaiting k e he⟩, fun k hk => entryIs_iff.1 (h.current k hk), h.wait, fun o ho => ⟨fun hr => ?_, h.reply o ho⟩⟩
  · rw [h.unjoined unjoined k e he] at live
    cases live
  · exact h.in_flight k (entryIs_iff.2 ⟨e, he, flying⟩)
  · intro listening
    have none := h.early (.inl listening)
    rw [anyInFlight_iff.2 ⟨k, e, he, (inFlight_iff _).1 flying⟩] at none
    cases none
  · intro announcing
    have none := h.early (.inr announcing)
    rw [anyInFlight_iff.2 ⟨k, e, he, (inFlight_iff _).1 flying⟩] at none
    cases none
  · have none := (h.leaving leaving).2 k
    rw [entryIs_iff.2 ⟨e, he, queued⟩] at none
    cases none
  · obtain ⟨c, current, kind, joining, onLine⟩ := h.chosen o ho hr
    refine ⟨c, current, kind, joining, fun k hk => ?_⟩
    obtain ⟨e, he, state⟩ := entryIs_iff.1 (onLine k hk)
    exact ⟨e, he, by simpa using state⟩

/-- In LEAVING the current frame is the entry in flight (R156). -/
def Flying (s : State) : Prop := s.stc.station = .leaving → ∃ h, s.txq.current = some (.entry h)

theorem QueueLaw.flies (h : QueueLaw s) : Flying s := by
  intro leaving
  obtain ⟨k, e, he, state⟩ := anyInFlight_iff.1 (h.leaving leaving).1
  exact ⟨k, h.in_flight k (entryIs_iff.2 ⟨e, he, (inFlight_iff _).2 state⟩)⟩

theorem QueueRest.law (h : QueueRest s) (flies : Flying s) : QueueLaw s := by
  refine ⟨fun k e he live => (h.entries k e he live).live, fun k hk => ?_, fun k hk => entryIs_iff.2 (h.current k hk),
    fun unjoined k e he => ?_, fun early => ?_, fun leaving => ⟨?_, fun k => ?_⟩, fun k e he state => ?_, h.wait,
    fun o ho hr => ?_, fun o ho => (h.own o ho).reply⟩
  · obtain ⟨e, he, flying⟩ := entryIs_iff.1 hk
    exact ((h.entries k e he (inFlight_incomplete flying)).flying flying).1
  · by_contra live
    exact (h.entries k e he (by simpa using live)).joined unjoined
  · by_contra any
    rw [Bool.not_eq_false, anyInFlight_iff] at any
    obtain ⟨k, e, he, state⟩ := any
    have flying := (inFlight_iff _).2 state
    obtain ⟨-, notListening, notAnnouncing⟩ := (h.entries k e he (inFlight_incomplete flying)).flying flying
    exact early.elim notListening notAnnouncing
  · obtain ⟨k, hk⟩ := flies leaving
    obtain ⟨e, he, flying⟩ := h.current k hk
    exact anyInFlight_iff.2 ⟨k, e, he, (inFlight_iff _).1 flying⟩
  · by_contra queued
    rw [Bool.not_eq_false, entryIs_iff] at queued
    obtain ⟨e, he, state⟩ := queued
    exact (h.entries k e he (isQueued_incomplete state)).queued state leaving
  · exact (h.entries k e he (by rw [state]; rfl)).awaiting state
  · obtain ⟨c, current, kind, joining, onLine⟩ := (h.own o ho).chosen hr
    refine ⟨c, current, kind, joining, fun k hk => ?_⟩
    obtain ⟨e, he, state⟩ := onLine k hk
    exact entryIs_iff.2 ⟨e, he, by simpa using state⟩

theorem queueLaw_iff : QueueLaw s ↔ QueueRest s ∧ Flying s := ⟨fun h => ⟨h.rest, h.flies⟩, fun h => h.1.law h.2⟩

/-! ### Changes that leave every attempt where it is -/

/-- An entry as the pause of its destination has it: of an entry that waits, WAITING or HELD (R54). -/
def requeued (t : State) (e : Entry) : Entry := if e.state.isQueued = true then returned t e else e

theorem requeued_state (t : State) (e : Entry) : (requeued t e).state.isComplete = e.state.isComplete ∧
    (requeued t e).state.inFlight = e.state.inFlight ∧ (requeued t e).state.isQueued = e.state.isQueued := by
  unfold requeued
  by_cases queued : e.state.isQueued = true
  · rw [if_pos queued]
    have back : (returned t e).state.isQueued = true := by
      unfold returned waitingState
      dsimp only
      split <;> rfl
    rw [queued, back, isQueued_notInFlight queued, isQueued_notInFlight back, isQueued_incomplete queued,
      isQueued_incomplete back]
    exact ⟨rfl, rfl, rfl⟩
  · rw [if_neg queued]
    exact ⟨rfl, rfl, rfl⟩

theorem requeued_flying {e : Entry} (flying : e.state.inFlight = true) : requeued t e = e := by
  refine if_neg fun queued => ?_
  rw [isQueued_notInFlight queued] at flying
  cases flying

theorem returned_held {e : Entry} : ((returned t e).state = .held → destPaused t e.dest = true) ∧
    ((returned t e).state = .waiting → destPaused t e.dest = false) := by
  unfold returned
  rw [← waitingState_eq]
  by_cases paused : destPaused t e.dest = true <;> simp [paused]

/-- The law of an entry that is sound stays, requeued or not, where the destination's pause is what it was or has requeued
it. -/
theorem LiveEntryLaw.requeued {e : Entry} (h : LiveEntryLaw s e) (config : t.stc.config = s.stc.config) :
    LiveEntryLaw t (Machine.requeued t e) := by
  unfold Machine.requeued
  by_cases queued : e.state.isQueued = true
  · rw [if_pos queued]
    refine ⟨config ▸ h.attempts, config ▸ h.collisions, config ▸ h.destination, returned_held.1, returned_held.2, fun flying => ?_⟩
    have back : (returned t e).state.isQueued = true := by
      unfold returned waitingState
      dsimp only
      split <;> rfl
    rw [isQueued_notInFlight back] at flying
    cases flying
  · rw [if_neg queued]
    rw [isQueued_iff, not_or] at queued
    exact ⟨config ▸ h.attempts, config ▸ h.collisions, config ▸ h.destination, fun held => absurd held queued.2,
      fun waiting => absurd waiting queued.1, h.sequence⟩

/-- `t` has the entries of `s`, WAITING or HELD as its own records say, and the attempts and frames of `s`. -/
structure Requeued (s t : State) : Prop where
  config : t.stc.config = s.stc.config
  station : t.stc.station = s.stc.station
  current : t.txq.current = s.txq.current
  wait : t.rpu.wait = s.rpu.wait
  entries : EntriesMapped (requeued t) s t
  own : ∀ o, t.lif.own = some o → ∃ o', s.lif.own = some o' ∧ o.kind = o'.kind ∧ o.joining = o'.joining ∧
    o.requester = o'.requester
  reply : t.lif.own = none ∨ ∀ r, s.rpu.pending = some r → r.sending = true → t.rpu.pending = some r

theorem Requeued.entry (h : Requeued s t) {k : Fin 16} {e : Entry} (he : s.txq.entries[k] = some e)
    (flying : e.state.inFlight = true) : t.txq.entries[k] = some e := by
  rw [h.entries k, he, Option.map_some, requeued_flying flying]

theorem QueueRest.requeued (hs : QueueRest s) (h : Requeued s t) : QueueRest t := by
  refine ⟨fun k e' he' live => ?_, fun k hk => ?_, fun w hw => ?_, fun o ho => ⟨fun hr => ?_, fun hr => ?_⟩⟩
  · rw [h.entries k, Option.map_eq_some_iff] at he'
    obtain ⟨e, he, rfl⟩ := he'
    obtain ⟨complete, flying, queued⟩ := requeued_state t e
    have sound := hs.entries k e he (complete ▸ live)
    refine ⟨sound.live.requeued h.config, h.station ▸ sound.joined, ?_, ?_, fun awaiting => ?_⟩
    · rw [flying, h.current, h.station]
      exact sound.flying
    · rw [queued, h.station]
      exact sound.queued
    · have same := requeued_flying (t := t) (e := e) (by rw [← flying, awaiting]; rfl)
      rw [same] at awaiting ⊢
      rw [h.wait]
      exact sound.awaiting awaiting
  · rw [h.current] at hk
    obtain ⟨e, he, flying⟩ := hs.current k hk
    exact ⟨e, h.entry he flying, flying⟩
  · rw [h.wait] at hw
    obtain ⟨e, he, awaiting⟩ := hs.wait w hw
    exact ⟨e, h.entry he (by rw [awaiting]; rfl), awaiting⟩
  · obtain ⟨o', ho', kind, joining, requester⟩ := h.own o ho
    obtain ⟨c, current, kind', joining', onLine⟩ := (hs.own o' ho').chosen (requester ▸ hr)
    refine ⟨c, h.current.trans current, kind.trans kind', joining.trans joining', fun k hk => ?_⟩
    obtain ⟨e, he, state⟩ := onLine k hk
    exact ⟨e, h.entry he (by rw [state]; rfl), state⟩
  · obtain ⟨o', ho', kind, -, requester⟩ := h.own o ho
    obtain ⟨ack, r, pending, sending⟩ := (hs.own o' ho').reply (requester ▸ hr)
    refine ⟨kind.trans ack, r, ?_, sending⟩
    rcases h.reply with none | kept
    · rw [none] at ho
      cases ho
    · exact kept r pending sending

/-- Where the law holds, an entry is WAITING or HELD as its destination's pause has it. -/
theorem QueueRest.requeued_self (hs : QueueRest s) {k : Fin 16} {e : Entry} (he : s.txq.entries[k] = some e)
    (paused : destPaused t e.dest = destPaused s e.dest) : Machine.requeued t e = e := by
  by_cases queued : e.state.isQueued = true
  · have live := (hs.entries k e he (isQueued_incomplete queued)).live
    rw [Machine.requeued, if_pos queued, returned, ← waitingState_eq, paused]
    rcases isQueued_iff.1 queued with waiting | held
    · rw [live.waiting waiting]
      cases e
      cases waiting
      rfl
    · rw [live.held held]
      cases e
      cases held
      rfl
  · exact if_neg queued

/-- An event that changes no entry and no record's pause. -/
theorem Requeued.of_entries (hs : QueueRest s) (config : t.stc.config = s.stc.config) (station : t.stc.station = s.stc.station)
    (current : t.txq.current = s.txq.current) (wait : t.rpu.wait = s.rpu.wait) (entries : t.txq.entries = s.txq.entries)
    (paused : ∀ d, destPaused t d = destPaused s d)
    (own : ∀ o, t.lif.own = some o → ∃ o', s.lif.own = some o' ∧ o.kind = o'.kind ∧ o.joining = o'.joining ∧
      o.requester = o'.requester)
    (reply : t.lif.own = none ∨ ∀ r, s.rpu.pending = some r → r.sending = true → t.rpu.pending = some r) : Requeued s t := by
  refine ⟨config, station, current, wait, fun k => ?_, own, reply⟩
  rw [entries]
  cases he : s.txq.entries[k] with
  | none => rfl
  | some e => rw [Option.map_some, hs.requeued_self he (paused _)]

/-- An event at the records that requeues the entries to those it pauses or unpauses (R66 to R68). -/
theorem Requeued.of_mapped (hs : QueueRest s) {f : Entry → Entry} (stc : t.stc = s.stc)
    (current : t.txq.current = s.txq.current) (rpu : t.rpu = s.rpu) (lif : t.lif = s.lif) (mapped : EntriesMapped f s t)
    (requeues : ∀ (k : Fin 16) (e : Entry), s.txq.entries[k] = some e → f e = Machine.requeued t e) : Requeued s t := by
  refine ⟨congrArg _ stc, congrArg _ stc, current, congrArg _ rpu, fun k => ?_, fun o ho => ⟨o, lif ▸ ho, rfl, rfl, rfl⟩,
    .inr fun r hr _ => by rw [rpu, hr]⟩
  rw [mapped k]
  cases he : s.txq.entries[k] with
  | none => rfl
  | some e => rw [Option.map_some, Option.map_some, requeues k e he]

end Sys2Proof.Machine

/-! PROOFS. The parts that an event at the peer records, the queue, the reply wait and the own frame is made of, and what each
does to the law of the Transmit Queue (R54, R58, R65 to R68, R78, R86). -/

namespace Sys2Proof.Machine

variable {s t : State}

/-! ### The pause of a destination -/

theorem destPaused_iff {d : Byte} : destPaused s d = true ↔ ∃ p : Fin 32, d = byteOf p.val ∧ s.ptb.records[p].paused = true := by
  unfold destPaused
  cases hr : recordOf d with
  | none =>
    refine ⟨fun h => by simp at h, ?_⟩
    rintro ⟨p, rfl, -⟩
    simp at hr
  | some p =>
    obtain rfl := recordOf_eq_some.1 hr
    refine ⟨fun h => ⟨p, rfl, h⟩, ?_⟩
    rintro ⟨q, same, h⟩
    obtain rfl := byteOf_record_injective same
    exact h

theorem destPaused_congr (h : ∀ p : Fin 32, t.ptb.records[p].paused = s.ptb.records[p].paused) (d : Byte) :
    destPaused t d = destPaused s d := by
  unfold destPaused
  cases recordOf d with
  | none => rfl
  | some p => exact h p

/-- The entries to the peers of which `R` holds are HELD now (R67). -/
theorem heldWhere_requeued (hs : QueueRest s) {R : Byte → Prop} [DecidablePred R]
    (paused : ∀ d, destPaused t d = true ↔ destPaused s d = true ∨ R d) {k : Fin 16} {e : Entry}
    (he : s.txq.entries[k] = some e) :
    (if R e.dest ∧ e.state = .waiting then { e with state := .held } else e) = requeued t e := by
  by_cases struck : R e.dest
  · have now : destPaused t e.dest = true := (paused _).2 (.inr struck)
    unfold requeued returned
    rw [← waitingState_eq, if_pos now]
    cases state : e.state <;> simp [struck, EntryState.isQueued]
    cases e
    cases state
    rfl
  · rw [hs.requeued_self he (Bool.eq_iff_iff.2 ((paused _).trans (or_iff_left struck)))]
    exact if_neg fun h => struck h.1

/-- The entries to the peers of which `R` holds wait again (R68). -/
theorem releasedWhere_requeued (hs : QueueRest s) {R : Byte → Prop} [DecidablePred R]
    (paused : ∀ d, destPaused t d = true ↔ destPaused s d = true ∧ ¬ R d) {k : Fin 16} {e : Entry}
    (he : s.txq.entries[k] = some e) :
    (if R e.dest ∧ e.state = .held then { e with state := .waiting } else e) = requeued t e := by
  by_cases struck : R e.dest
  · have now : ¬ destPaused t e.dest = true := fun h => ((paused _).1 h).2 struck
    unfold requeued returned
    rw [← waitingState_eq, if_neg now]
    cases state : e.state <;> simp [struck, EntryState.isQueued]
    cases e
    cases state
    rfl
  · rw [hs.requeued_self he (Bool.eq_iff_iff.2 ((paused _).trans (and_iff_left struck)))]
    exact if_neg fun h => struck h.1

/-- With record `p` replaced, the pauses of the other destinations are as they were. -/
theorem destPaused_setRecord {p : Fin 32} {r : Peer} (h : t.ptb.records = (setRecord p r s.ptb).records) (d : Byte) :
    destPaused t d = true ↔ if d = byteOf p.val then r.paused = true else destPaused s d = true := by
  have records : ∀ q : Fin 32, t.ptb.records[q] = if q = p then r else s.ptb.records[q] := fun q => by
    rw [h]
    exact setRecord_get p q r s.ptb
  rw [destPaused_iff]
  by_cases same : d = byteOf p.val
  · rw [if_pos same]
    refine ⟨?_, fun paused => ⟨p, same, by rw [records p, if_pos rfl]; exact paused⟩⟩
    rintro ⟨q, hq, paused⟩
    obtain rfl := byteOf_record_injective (same.symm.trans hq)
    rwa [records, if_pos rfl] at paused
  · rw [if_neg same, destPaused_iff]
    refine exists_congr fun q => and_congr_right fun hq => ?_
    have other : ¬ q = p := fun e => same (e ▸ hq)
    rw [records, if_neg other]

/-! ### The Peer Table -/

theorem refreshPresence_requeued (hs : QueueRest s) (p : Fin 32) : Requeued s (refreshPresence p s) := by
  obtain ⟨state, -⟩ := refreshPresence_eq p s
  generalize refreshPresence p s = t at *
  have records : ∀ q : Fin 32, t.ptb.records[q].paused = s.ptb.records[q].paused := fun q => by
    rw [state]
    dsimp only
    rw [setRecord_get]
    by_cases same : q = p <;> simp [same]
  refine .of_entries hs (by rw [state]) (by rw [state]) (by rw [state]) (by rw [state]) (by rw [state])
    (destPaused_congr records) (fun o ho => ⟨o, ?_, rfl, rfl, rfl⟩) (.inr fun r hr _ => ?_)
  · rwa [state] at ho
  · rwa [state]

theorem pausePeer_requeued (hs : QueueRest s) (p : Fin 32) (cause : PauseCause) : Requeued s (pausePeer p cause s) := by
  obtain ⟨state, report⟩ := pausePeer_eq p cause s
  have rpu : (pausePeer p cause s).rpu = s.rpu := by simp
  have lif : (pausePeer p cause s).lif = s.lif := by simp
  generalize pausePeer p cause s = t at *
  have records := destPaused_setRecord (s := s) (t := t) (congrArg (fun x => x.ptb.records) state)
  by_cases paused : s.ptb.records[p].paused = true
  · rw [if_pos paused] at report
    have same : ∀ d, destPaused t d = destPaused s d := fun d => by
      rw [Bool.eq_iff_iff, records]
      by_cases dest : d = byteOf p.val
      · rw [if_pos dest, destPaused_iff]
        exact ⟨fun _ => ⟨p, dest, paused⟩, fun _ => rfl⟩
      · rw [if_neg dest]
    exact .of_entries hs (by rw [state]) (by rw [state]) (by rw [report.1]) (by rw [rpu]) (by rw [report.1]) same
      (fun o ho => ⟨o, lif ▸ ho, rfl, rfl, rfl⟩) (.inr fun r hr _ => by rw [rpu, hr])
  · rw [if_neg paused] at report
    refine .of_mapped hs (by rw [state]) (by rw [state]) rpu lif report.1 fun k e he => ?_
    exact heldWhere_requeued hs (R := fun d => d = byteOf p.val) (fun d => by
      rw [records]
      by_cases dest : d = byteOf p.val <;> simp [dest]) he

/-- A record whose pause ends, if it was paused, with its entries released. -/
theorem unpaused_requeued (hs : QueueRest s) {p : Fin 32} {r : Peer} (off : r.paused = false) (stc : t.stc = s.stc)
    (current : t.txq.current = s.txq.current) (rpu : t.rpu = s.rpu) (lif : t.lif = s.lif)
    (table : t.ptb.records = (setRecord p r s.ptb).records)
    (entries : EntriesMapped (if s.ptb.records[p].paused = true then releasedBy p else id) s t) : Requeued s t := by
  have records := destPaused_setRecord table
  refine .of_mapped hs stc current rpu lif entries fun k e he => ?_
  by_cases paused : s.ptb.records[p].paused = true
  · rw [if_pos paused]
    exact releasedWhere_requeued hs (R := fun d => d = byteOf p.val) (fun d => by
      rw [records]
      by_cases dest : d = byteOf p.val <;> simp [dest, off]) he
  · rw [if_neg paused, hs.requeued_self he]
    · rfl
    · rw [Bool.eq_iff_iff, records]
      by_cases dest : e.dest = byteOf p.val
      · rw [if_pos dest, off, destPaused_iff]
        refine ⟨fun h => by simp at h, ?_⟩
        rintro ⟨q, hq, h⟩
        obtain rfl := byteOf_record_injective (dest.symm.trans hq)
        exact absurd h paused
      · rw [if_neg dest]

theorem resumePeer_requeued (hs : QueueRest s) (p : Fin 32) (cause : ResumeCause) : Requeued s (resumePeer p cause s) := by
  obtain ⟨state, report⟩ := resumePeer_eq p cause s
  have rpu : (resumePeer p cause s).rpu = s.rpu := by simp
  have lif : (resumePeer p cause s).lif = s.lif := by simp
  generalize resumePeer p cause s = t at *
  refine unpaused_requeued hs rfl (by rw [state]) (by rw [state]) rpu lif (congrArg (fun x => x.ptb.records) state) ?_
  by_cases paused : s.ptb.records[p].paused = true
  · rw [if_pos paused] at report ⊢
    exact report.1
  · rw [if_neg paused] at report ⊢
    exact .of_same report.1

theorem losePeer_requeued (hs : QueueRest s) (p : Fin 32) : Requeued s (losePeer p s) := by
  obtain ⟨state, entries, -⟩ := losePeer_lost p s
  have rpu : (losePeer p s).rpu = s.rpu := by simp
  have lif : (losePeer p s).lif = s.lif := by simp
  generalize losePeer p s = t at *
  exact unpaused_requeued hs rfl (by rw [state]) (by rw [state]) rpu lif (congrArg (fun x => x.ptb.records) state) entries

theorem recordAfterTick_paused (r : Peer) : (recordAfterTick r).paused = (r.paused && !unpausedByTick r) := by
  unfold recordAfterTick unpausedByTick peerExpires
  by_cases silent : timerExpires r.silence = true
  · simp [silent]
  · by_cases pauseEnds : timerExpires r.pauseTimer = true
    · simp [silent, pauseEnds]
    · simp [silent, pauseEnds, peerAfterTick]

theorem tickRecords_requeued (hs : QueueRest s) : Requeued s (tickRecords s) := by
  obtain ⟨state, records, entries, -⟩ := tickRecords_counts s
  have rpu : (tickRecords s).rpu = s.rpu := by simp
  have lif : (tickRecords s).lif = s.lif := by simp
  generalize tickRecords s = t at *
  refine .of_mapped hs (by rw [state]) (by rw [state]) rpu lif entries fun k e he => ?_
  unfold releasedAtTick
  rw [← releasedWhere_requeued (t := t) hs
    (R := fun d => ∃ p ∈ allRecords, d = byteOf p.val ∧ unpausedByTick s.ptb.records[p] = true) (fun d => ?_) he]
  · simp only [and_comm]
  · rw [destPaused_iff, destPaused_iff]
    simp only [records, recordAfterTick_paused, Bool.and_eq_true, Bool.not_eq_true', mem_allRecords, true_and]
    constructor
    · rintro ⟨p, hd, paused, stays⟩
      refine ⟨⟨p, hd, paused⟩, ?_⟩
      rintro ⟨q, hq, ended⟩
      obtain rfl := byteOf_record_injective (hd.symm.trans hq)
      rw [stays] at ended
      cases ended
    · rintro ⟨⟨p, hd, paused⟩, stays⟩
      refine ⟨p, hd, paused, ?_⟩
      by_contra ended
      exact stays ⟨p, hd, by simpa using ended⟩

end Sys2Proof.Machine

/-! PROOFS. The acts that every event is made of, outside the host's commands, and the law of the Transmit Queue through each
(R58, R61, R62, R65, R75, R78, R86). -/

namespace Sys2Proof.Machine

variable {s t : State} {strict : Prop}

/-! ### Acts -/

/-- `t` has the records, the reply unit, the entries and the station of `s`, and no own frame but its own. -/
structure Unrelated (s t : State) : Prop where
  config : t.stc.config = s.stc.config
  station : t.stc.station = s.stc.station
  entries : t.txq.entries = s.txq.entries
  current : t.txq.current = s.txq.current
  table : t.ptb = s.ptb
  rpu : t.rpu = s.rpu
  own : ∀ o, t.lif.own = some o → ∃ o', s.lif.own = some o' ∧ o.kind = o'.kind ∧ o.joining = o'.joining ∧
    o.requester = o'.requester

/-- One act of an event. Each constructor is an operation of the model, under what its callers have checked; `strict` says that
LEAVE's completion is known to follow the end of the attempt. -/
inductive Act (strict : Prop) : State → State → Prop
  | unrelated (s t : State) (h : Unrelated s t) : Act strict s t
  | presence (s : State) (p : Fin 32) (taken : claimsTaken s p = true) : Act strict s (refreshPresence p s)
  | pause (s : State) (p : Fin 32) (cause : PauseCause) (taken : claimsTaken s p = true)
      (present : s.ptb.records[p].present = true) : Act strict s (pausePeer p cause s)
  | resume (s : State) (p : Fin 32) (cause : ResumeCause) : Act strict s (resumePeer p cause s)
  | lose (s : State) (p : Fin 32) : Act strict s (losePeer p s)
  | received (s : State) (p : Fin 32) (q : Option Byte) (taken : claimsTaken s p = true) :
      Act strict s (setPeer p { s.ptb.records[p] with lastReceived := q } s)
  | tick (s : State) : Act strict s (tickRecords s)
  | beaconTimer (s : State) (timer : Option Nat)
      (h : s.stc.station = .unjoined → s.ptb.beaconTimer = none → timer = none) :
      Act strict s { s with ptb := { s.ptb with beaconTimer := timer } }
  | pending (s : State) (x : Option PendingReply)
      (h : s.lif.own = none ∨ ∀ r, s.rpu.pending = some r → r.sending = true → x = some r) :
      Act strict s { s with rpu := { s.rpu with pending := x } }
  | candidate (s : State) (w : ReplyWait) (hw : s.rpu.wait = some w) :
      Act strict s { s with rpu := { s.rpu with wait := some { w with candidate := true } } }
  | endWait (s : State) (w : ReplyWait) (o : ReplyOutcome) (hw : s.rpu.wait = some w)
      (full : o = .full → ∀ p : Fin 32, w.dest = byteOf p.val → claimsTaken s p = true →
        s.ptb.records[p].present = true) : Act strict s (endWait w o s)
  | outcome (s : State) (o : OwnOutcome) (free : s.lif.own = none) : Act strict s (currentOutcome o s)
  | station (s : State) (st : StationState) (round : Option Nat)
      (h : (s.stc.station = .listening ∧ st = .announcing) ∨ (s.stc.station = .announcing ∧ st = .active) ∨
        (joined s = true ∧ st = .halted)) : Act strict s (setStation st round s)
  | left (s : State) (leaving : s.stc.station = .leaving) (ended : strict → s.txq.current = none) :
      Act strict s (leaveCompletion s)
  | request (s : State) (c : CurrentFrame) (hc : chooseFrame s = some c) : Act strict s (requestFrame c s)
  | reply (s : State) (r : PendingReply) (hr : s.rpu.pending = some r) (waits : r.sending = false) :
      Act strict s (sendReply r s)

/-- Acts, one after the other. -/
abbrev Acts (strict : Prop) : State → State → Prop := Relation.ReflTransGen (Act strict)

/-! ### An attempt that ends -/

/-- The entry in flight is replaced by one that is not, and with it the current frame and the reply wait go. -/
theorem QueueRest.finished (hs : QueueRest s) {h : Fin 16} {e' : Entry} (flew : s.txq.current = some (.entry h))
    (config : t.stc.config = s.stc.config) (station : t.stc.station = s.stc.station)
    (paused : ∀ d, destPaused t d = destPaused s d)
    (entries : ∀ k : Fin 16, t.txq.entries[k] = if k = h then some e' else s.txq.entries[k])
    (current : t.txq.current = none) (wait : t.rpu.wait = none)
    (own : ∀ o, t.lif.own = some o → o.requester = .replyUnit ∧ FrameSound t o)
    (sound : e'.state.isComplete = false → LiveEntryLaw t e' ∧ e'.state.isQueued = true ∧ t.stc.station ≠ .unjoined ∧
      t.stc.station ≠ .leaving) : QueueRest t := by
  refine ⟨fun k e he live => ?_, fun k hk => ?_, fun w hw => ?_, fun o ho => (own o ho).2⟩
  · rw [entries k] at he
    by_cases same : k = h
    · rw [if_pos same] at he
      cases he
      obtain ⟨law, queued, joined, stays⟩ := sound live
      refine ⟨law, joined, fun flying => ?_, fun _ => stays, fun awaiting => ?_⟩
      · rw [isQueued_notInFlight queued] at flying
        cases flying
      · rw [awaiting] at queued
        cases queued
    · rw [if_neg same] at he
      have was := hs.entries k e he live
      have grounded : ¬ e.state.inFlight = true := fun flying => by
        have both := (was.flying flying).1.symm.trans flew
        simp only [Option.some.injEq, CurrentFrame.entry.injEq] at both
        exact same both
      have keeps := was.live
      refine ⟨⟨config ▸ keeps.attempts, config ▸ keeps.collisions, config ▸ keeps.destination, ?_, ?_, keeps.sequence⟩,
        station ▸ was.joined, fun flying => absurd flying grounded, station ▸ was.queued, fun awaiting => ?_⟩
      · rw [paused]
        exact keeps.held
      · rw [paused]
        exact keeps.waiting
      · exact absurd (by rw [awaiting]; rfl) grounded
  · rw [current] at hk
    cases hk
  · rw [wait] at hw
    cases hw

/-- The law of a returned entry (R61, R65). -/
theorem LiveEntryLaw.returned {e : Entry} (h : LiveEntryLaw s e) {attempts collisions : Nat}
    (config : t.stc.config = s.stc.config) (tries : attempts < s.stc.config.retryLimit)
    (hits : collisions < s.stc.config.collisionLimit) :
    LiveEntryLaw t (Machine.returned t { e with attempts, collisions }) ∧
      (Machine.returned t { e with attempts, collisions }).state.isQueued = true := by
  have queued : (Machine.returned t { e with attempts, collisions }).state.isQueued = true := by
    unfold Machine.returned waitingState
    dsimp only
    split <;> rfl
  have pause := returned_held (t := t) (e := { e with attempts, collisions })
  refine ⟨⟨config ▸ tries, config ▸ hits, config ▸ h.destination, pause.1, pause.2, fun flying => ?_⟩, queued⟩
  rw [isQueued_notInFlight queued] at flying
  cases flying

/-- `v` is `s` with the attempt in flight taken off the line: no current frame, no reply wait, no frame of the queue's. -/
structure Grounded (s v : State) : Prop where
  config : v.stc.config = s.stc.config
  station : v.stc.station = s.stc.station
  table : v.ptb = s.ptb
  entries : v.txq.entries = s.txq.entries
  current : v.txq.current = none
  wait : v.rpu.wait = none
  own : ∀ o, v.lif.own = some o → o.requester = .replyUnit ∧ FrameSound s o
  pending : v.rpu.pending = s.rpu.pending

theorem Grounded.finished (g : Grounded s t) (hs : QueueRest s) {h : Fin 16} {e' : Entry}
    (flew : s.txq.current = some (.entry h)) {u : State} (queue : u.txq = setSlot h (some e') t.txq)
    (stc : u.stc = t.stc) (ptb : u.ptb = t.ptb) (rpu : u.rpu = t.rpu) (lif : u.lif = t.lif)
    (sound : e'.state.isComplete = false → LiveEntryLaw u e' ∧ e'.state.isQueued = true ∧ u.stc.station ≠ .unjoined ∧
      u.stc.station ≠ .leaving) : QueueRest u := by
  refine hs.finished flew (by rw [stc, g.config]) (by rw [stc, g.station]) (fun d => ?_) (fun k => ?_)
    (by rw [queue]; exact g.current) (by rw [rpu, g.wait]) (fun o ho => ?_) sound
  · unfold destPaused
    rw [ptb, g.table]
  · rw [queue, setSlot_get, g.entries]
  · rw [lif] at ho
    obtain ⟨requester, sound⟩ := g.own o ho
    refine ⟨requester, fun other => ?_, fun hr => ?_⟩
    · rw [requester] at other
      cases other
    · rw [rpu, g.pending]
      exact sound.reply hr

theorem Grounded.completed (g : Grounded s t) (hs : QueueRest s) {h : Fin 16} (flew : s.txq.current = some (.entry h))
    (e : Entry) (o : EntryOutcome) : QueueRest (completeEntry h e o t) := by
  rw [completeEntry_eq]
  exact g.finished hs flew rfl rfl rfl rfl rfl fun live => by cases live

theorem Grounded.failed (g : Grounded s t) (hs : QueueRest s) {h : Fin 16} {e : Entry} (he : s.txq.entries[h] = some e)
    (flying : e.state.inFlight = true) {attempts collisions : Nat} {limit : Option EntryOutcome}
    (returns : limit = none → attempts < s.stc.config.retryLimit ∧ collisions < s.stc.config.collisionLimit) :
    QueueRest (failAttempt h { e with attempts, collisions } limit t) := by
  have sound := hs.entries h e he (inFlight_incomplete flying)
  have flew := (sound.flying flying).1
  unfold failAttempt
  by_cases leaving : t.stc.station = .leaving
  · rw [if_pos leaving]
    exact g.completed hs flew _ _
  · rw [if_neg leaving]
    cases limit with
    | some o => exact g.completed hs flew _ _
    | none =>
      obtain ⟨tries, hits⟩ := returns rfl
      dsimp only
      rw [returnEntry_eq]
      refine g.finished hs flew rfl rfl rfl rfl rfl fun _ => ?_
      obtain ⟨law, queued⟩ := sound.live.returned (t := t) g.config tries hits
      exact ⟨⟨law.attempts, law.collisions, law.destination, law.held, law.waiting, law.sequence⟩, queued,
        g.station ▸ sound.joined, leaving⟩

theorem limitOutcome_eq_none {o : EntryOutcome} {count limit : Nat} : limitOutcome o count limit = none ↔ count < limit := by
  unfold limitOutcome
  split <;> simp <;> omega

/-! ### The end of the reply wait (R63 to R65, R90) -/

theorem QueueRest.peerFull (hs : QueueRest s) (d : Byte) : QueueRest (peerFull d s) := by
  unfold Machine.peerFull
  cases recordOf d with
  | none => exact hs
  | some p =>
    dsimp only
    split
    · exact hs.requeued (pausePeer_requeued hs p _)
    · exact hs

theorem offerNotice_withReply (n : Notice) (r : ReplyUnit) (s : State) :
    offerNotice n { s with rpu := r } = { offerNotice n s with rpu := r } := by
  unfold offerNotice
  by_cases room : (n.kind.isCompletion || decide (informationalCount s.notices < Config.informationalLimit)) = true
  · exact (if_pos room).trans (by rw [if_pos room])
  · exact (if_neg room).trans (by rw [if_neg room])

theorem pausePeer_withReply (p : Fin 32) (cause : PauseCause) (r : ReplyUnit) (s : State) :
    pausePeer p cause { s with rpu := r } = { pausePeer p cause s with rpu := r } := by
  by_cases paused : s.ptb.records[p].paused = true
  · exact (if_pos paused).trans (by rw [pausePeer, if_pos paused]; rfl)
  · refine (if_neg paused).trans ?_
    rw [pausePeer, if_neg paused, ← offerNotice_withReply]
    rfl

theorem peerFull_withReply (d : Byte) (r : ReplyUnit) (s : State) :
    peerFull d { s with rpu := r } = { peerFull d s with rpu := r } := by
  unfold peerFull
  cases recordOf d with
  | none => rfl
  | some p =>
    dsimp only
    by_cases taken : claimsTaken s p = true
    · have taken' : claimsTaken { s with rpu := r } p = true := taken
      rw [if_pos taken, if_pos taken']
      exact pausePeer_withReply p .fullReply r s
    · have taken' : ¬ claimsTaken { s with rpu := r } p = true := taken
      rw [if_neg taken, if_neg taken']

/-- What the entry of the wait is returned as, or completes as, once the wait is gone (R63 to R65). -/
theorem replyOutcome_rest (hs : QueueRest s) {h : Fin 16} {e : Entry} (he : s.txq.entries[h] = some e)
    (awaiting : e.state = .awaitingReply) (o : ReplyOutcome) (c : Counters) :
    QueueRest (replyOutcome h o { s with rpu := { s.rpu with wait := none }, counters := c }) := by
  have flying : e.state.inFlight = true := by rw [awaiting]; rfl
  have sound := hs.entries h e he (inFlight_incomplete flying)
  have flew := (sound.flying flying).1
  have g : Grounded s (setCurrent none { s with rpu := { s.rpu with wait := none }, counters := c }) := by
    refine ⟨rfl, rfl, rfl, rfl, rfl, rfl, fun own ho => ?_, rfl⟩
    have sound := hs.own own ho
    refine ⟨?_, sound⟩
    cases requester : own.requester with
    | replyUnit => rfl
    | transmitQueue =>
      obtain ⟨c, current, -, -, onLine⟩ := sound.chosen requester
      obtain ⟨e', he', state⟩ := onLine h (Option.some.inj (current.symm.trans flew))
      rw [he] at he'
      cases he'
      rw [awaiting] at state
      cases state
  unfold replyOutcome
  simp only [he, awaiting, if_true]
  have tries := sound.live.attempts
  have hits := sound.live.collisions
  cases o with
  | taken => exact g.completed hs flew _ _
  | duplicate => exact g.completed hs flew _ _
  | full => exact g.failed hs he flying fun _ => ⟨tries, hits⟩
  | noReply => exact g.failed hs he flying fun limit => ⟨limitOutcome_eq_none.1 limit, hits⟩

theorem QueueRest.endWait (hs : QueueRest s) {w : ReplyWait} (hw : s.rpu.wait = some w) (o : ReplyOutcome) :
    QueueRest (endWait w o s) := by
  obtain ⟨e, he, awaiting⟩ := hs.wait w hw
  unfold Machine.endWait
  cases o with
  | taken => exact replyOutcome_rest hs he awaiting .taken s.counters
  | duplicate => exact replyOutcome_rest hs he awaiting .duplicate s.counters
  | noReply => exact replyOutcome_rest hs he awaiting .noReply _
  | full =>
    dsimp only
    rw [peerFull_withReply]
    have hs' := hs.peerFull w.dest
    have rpu : (Machine.peerFull w.dest s).rpu = s.rpu := by simp
    obtain ⟨e', he', awaiting'⟩ := hs'.wait w (by rw [rpu, hw])
    generalize Machine.peerFull w.dest s = u at *
    rw [← rpu]
    exact replyOutcome_rest hs' he' awaiting' .full u.counters

end Sys2Proof.Machine

/-! PROOFS. The law of the Transmit Queue through an own frame's outcome, its request and the moves of the station, and so through
every act of an event (R22, R58 to R62, R82, R86, R158). -/

namespace Sys2Proof.Machine

variable {s t : State} {strict : Prop}

/-! ### The outcome of the current frame (R59, R61, R62) -/

/-- The current frame is gone, and was no entry's. -/
theorem QueueRest.dropCurrent (hs : QueueRest s) (free : s.lif.own = none) (other : ∀ h, s.txq.current ≠ some (.entry h))
    (b : PendingBeacon) : QueueRest { s with txq := { s.txq with current := none, beacon := b } } := by
  refine ⟨fun k e he live => ?_, fun k hk => (by cases hk), hs.wait, fun o ho => ?_⟩
  · have sound := hs.entries k e he live
    have grounded : ¬ e.state.inFlight = true := fun flying => other k (sound.flying flying).1
    exact ⟨⟨sound.live.attempts, sound.live.collisions, sound.live.destination, sound.live.held, sound.live.waiting,
      sound.live.sequence⟩, sound.joined, fun flying => absurd flying grounded, sound.queued, sound.awaiting⟩
  · rw [show s.lif.own = some o from ho] at free
    cases free

/-- A unicast entry that went out clean awaits its reply, and the wait names it (R62, R86). -/
theorem QueueRest.awaits (hs : QueueRest s) (free : s.lif.own = none) {h : Fin 16} {e : Entry}
    (he : s.txq.entries[h] = some e) (onLine : e.state = .onLine) (unicast : e.dest ≠ 255) :
    QueueRest { s with
      txq := setSlot h (some { e with state := .awaitingReply }) s.txq,
      rpu := { s.rpu with wait := some { handle := h, dest := e.dest, seq := e.seq.getD 0, candidate := false } } } := by
  have flying : e.state.inFlight = true := by rw [onLine]; rfl
  have sound := hs.entries h e he (inFlight_incomplete flying)
  obtain ⟨flew, notListening, notAnnouncing⟩ := sound.flying flying
  have live := sound.live
  refine ⟨fun k e' he' live' => ?_, fun k hk => ?_, fun w hw => ?_, fun o ho => ?_⟩
  · rw [setSlot_get] at he'
    by_cases same : k = h
    · rw [if_pos same] at he'
      cases he'
      subst same
      obtain ⟨q, hq⟩ := Option.isSome_iff_exists.1 (live.sequence flying)
      exact ⟨⟨live.attempts, live.collisions, live.destination, fun x => (by cases x), fun x => (by cases x),
        fun _ => live.sequence flying⟩, sound.joined, fun _ => ⟨flew, notListening, notAnnouncing⟩, fun x => (by cases x),
        fun _ => ⟨unicast, _, rfl, rfl, rfl, by simp [hq]⟩⟩
    · rw [if_neg same] at he'
      have was := hs.entries k e' he' live'
      have grounded : ¬ e'.state.inFlight = true := fun up => by
        have both := (was.flying up).1.symm.trans flew
        simp only [Option.some.injEq, CurrentFrame.entry.injEq] at both
        exact same both
      have keeps := was.live
      exact ⟨⟨keeps.attempts, keeps.collisions, keeps.destination, keeps.held, keeps.waiting, keeps.sequence⟩, was.joined,
        fun up => absurd up grounded, was.queued, fun waits => absurd (by rw [waits]; rfl) grounded⟩
  · have same : k = h := by
      have both := flew.symm.trans (show s.txq.current = some (.entry k) from hk)
      simp only [Option.some.injEq, CurrentFrame.entry.injEq] at both
      exact both.symm
    exact ⟨_, by rw [setSlot_get, if_pos same], rfl⟩
  · cases hw
    exact ⟨_, by rw [setSlot_get, if_pos rfl], rfl⟩
  · rw [show s.lif.own = some o from ho] at free
    cases free

theorem QueueRest.outcome (hs : QueueRest s) (free : s.lif.own = none) (o : OwnOutcome) : QueueRest (currentOutcome o s) := by
  unfold currentOutcome
  cases hc : s.txq.current with
  | none => exact hs
  | some c =>
    cases c with
    | announcement a => exact hs.dropCurrent free (fun h => by rw [hc]; simp) _
    | beacon j =>
      have drops := fun b => hs.dropCurrent free (fun h => by rw [hc]; simp) b
      cases o with
      | clean => exact drops .none
      | collided => exact drops s.txq.beacon
      | echoLost => exact drops s.txq.beacon
    | entry h =>
      dsimp only
      cases he : s.txq.entries[h] with
      | none => exact hs
      | some e =>
        dsimp only
        by_cases onLine : e.state = .onLine
        · rw [if_pos onLine]
          have flying : e.state.inFlight = true := by rw [onLine]; rfl
          have live := (hs.entries h e he (inFlight_incomplete flying)).live
          have noWait : s.rpu.wait = none := by
            cases hw : s.rpu.wait with
            | none => rfl
            | some w =>
              obtain ⟨e', he', awaiting⟩ := hs.wait w hw
              have up : e'.state.inFlight = true := by rw [awaiting]; rfl
              have flew := ((hs.entries _ e' he' (inFlight_incomplete up)).flying up).1
              obtain rfl : h = w.handle := by simpa using hc.symm.trans flew
              rw [he] at he'
              cases he'
              rw [onLine] at awaiting
              cases awaiting
          have g : Grounded s (setCurrent none s) := by
            refine ⟨rfl, rfl, rfl, rfl, rfl, noWait, fun o ho => ?_, rfl⟩
            rw [show s.lif.own = some o from ho] at free
            cases free
          cases o with
          | clean =>
            unfold entryOutcome entryClean
            dsimp only
            by_cases all : e.dest = Config.toAll
            · rw [if_pos all]
              have same : setCurrent none (completeEntry h e .sentBroadcast s) =
                  completeEntry h e .sentBroadcast (setCurrent none s) := by
                rw [completeEntry_eq, completeEntry_eq]
                rfl
              rw [same]
              exact g.completed hs hc _ _
            · rw [if_neg all]
              exact hs.awaits free he onLine all
          | collided =>
            exact g.failed hs he flying fun limit => ⟨live.attempts, limitOutcome_eq_none.1 limit⟩
          | echoLost => exact g.failed hs he flying (limit := none) fun _ => ⟨live.attempts, live.collisions⟩
        · rw [if_neg onLine]
          exact hs

/-! ### The request of a frame (R22, R58, R60, R82) -/

theorem QueueRest.noneInFlight (hs : QueueRest s) (idle : s.txq.current = none) {k : Fin 16} {e : Entry}
    (he : s.txq.entries[k] = some e) : ¬ e.state.inFlight = true := fun up => by
  have flew := ((hs.entries k e he (inFlight_incomplete up)).flying up).1
  rw [idle] at flew
  cases flew

theorem QueueRest.noWait (hs : QueueRest s) (idle : s.txq.current = none) : s.rpu.wait = none := by
  cases hw : s.rpu.wait with
  | none => rfl
  | some w =>
    obtain ⟨e, he, awaiting⟩ := hs.wait w hw
    exact absurd (by rw [awaiting]; rfl) (hs.noneInFlight idle he)

/-- A frame of the queue's choosing that is no entry's becomes the current frame and the own frame (R22, R60). -/
theorem QueueRest.sends (hs : QueueRest s) (idle : s.txq.current = none) {c : CurrentFrame} (other : ∀ h, c ≠ .entry h)
    (l : LineInterface) (own : l.own = some (newOwnFrame (chosenKind c) (chosenJoining c) .transmitQueue)) :
    QueueRest { s with lif := l, txq := { s.txq with current := some c } } := by
  refine ⟨fun k e he live => ?_, fun k hk => ?_, hs.wait, fun o ho => ?_⟩
  · have sound := hs.entries k e he live
    have grounded := hs.noneInFlight idle he
    exact ⟨⟨sound.live.attempts, sound.live.collisions, sound.live.destination, sound.live.held, sound.live.waiting,
      sound.live.sequence⟩, sound.joined, fun flying => absurd flying grounded, sound.queued, sound.awaiting⟩
  · exact absurd (Option.some.inj hk) (other k)
  · obtain rfl := Option.some.inj (own.symm.trans ho)
    refine ⟨fun _ => ⟨c, rfl, rfl, rfl, fun h hc => absurd hc (other h)⟩, fun hr => ?_⟩
    cases hr

/-- A WAITING entry goes on the line: it has a sequence, and its frame is the current frame and the own frame (R58, R60). -/
theorem QueueRest.sendsEntry (hs : QueueRest s) (idle : s.txq.current = none) (active : s.stc.station = .active)
    {h : Fin 16} {e : Entry} (he : s.txq.entries[h] = some e) (waiting : e.state = .waiting) (q : Byte)
    (paused : ∀ d, destPaused t d = destPaused s d) (stc : t.stc = s.stc) (rpu : t.rpu = s.rpu)
    (current : t.txq.current = some (.entry h))
    (entries : t.txq.entries = (setSlot h (some { e with state := .onLine, seq := some q }) s.txq).entries)
    (own : t.lif.own = some (newOwnFrame .data false .transmitQueue)) : QueueRest t := by
  have noWait := hs.noWait idle
  have slots : ∀ k : Fin 16, t.txq.entries[k] =
      if k = h then some { e with state := .onLine, seq := some q } else s.txq.entries[k] := fun k => by
    rw [entries, setSlot_get]
  refine ⟨fun k e' he' live => ?_, fun k hk => ?_, fun w hw => ?_, fun o ho => ?_⟩
  · rw [slots] at he'
    by_cases same : k = h
    · rw [if_pos same] at he'
      cases he'
      have was := (hs.entries h e he (by rw [waiting]; rfl)).live
      refine ⟨⟨stc ▸ was.attempts, stc ▸ was.collisions, stc ▸ was.destination, fun x => (by cases x), fun x => (by cases x),
        fun _ => rfl⟩, ?_, fun _ => ⟨same ▸ current, ?_, ?_⟩, fun x => (by cases x), fun x => (by cases x)⟩
      all_goals rw [stc, active]; simp
    · rw [if_neg same] at he'
      have sound := hs.entries k e' he' live
      have grounded := hs.noneInFlight idle he'
      refine ⟨⟨stc ▸ sound.live.attempts, stc ▸ sound.live.collisions, stc ▸ sound.live.destination, ?_, ?_,
        sound.live.sequence⟩, stc ▸ sound.joined, fun flying => absurd flying grounded, stc ▸ sound.queued,
        fun awaits => absurd (by rw [awaits]; rfl) grounded⟩
      · rw [paused]
        exact sound.live.held
      · rw [paused]
        exact sound.live.waiting
  · obtain rfl : h = k := by simpa using current.symm.trans hk
    exact ⟨_, by rw [slots, if_pos rfl], rfl⟩
  · rw [rpu, noWait] at hw
    cases hw
  · obtain rfl := Option.some.inj (own.symm.trans ho)
    refine ⟨fun _ => ⟨.entry h, current, rfl, rfl, fun k hk => ?_⟩, fun hr => by cases hr⟩
    obtain rfl : h = k := by simpa using hk
    exact ⟨_, by rw [slots, if_pos rfl], rfl⟩

theorem chooseFrame_idle {c : CurrentFrame} (hc : chooseFrame s = some c) : s.txq.current = none := by
  unfold chooseFrame at hc
  cases current : s.txq.current with
  | none => rfl
  | some x =>
    rw [current] at hc
    simp at hc

theorem QueueRest.request (hs : QueueRest s) {c : CurrentFrame} (hc : chooseFrame s = some c) :
    QueueRest (requestFrame c s) := by
  have idle := chooseFrame_idle hc
  by_cases free : s.lif.transmitter = .off ∧ s.lif.own = none
  · cases c with
    | announcement a =>
      rw [requestFrame_free free]
      exact hs.sends idle (fun h => by simp) _ rfl
    | beacon j =>
      rw [requestFrame_free free]
      exact hs.sends idle (fun h => by simp) _ rfl
    | entry h =>
      obtain ⟨active, -, oldest⟩ := chooseFrame_entry hc
      have candidate := oldestCandidate_isCandidate oldest
      cases he : s.txq.entries[h] with
      | none => simp [isCandidate, he] at candidate
      | some e =>
        have waiting := isCandidate_waiting he candidate
        obtain ⟨again, unicast, broadcast⟩ := requestFrame_entry he free
        cases hq : e.seq with
        | some q =>
          rw [again q hq]
          exact hs.sendsEntry idle active he waiting q (fun _ => rfl) rfl rfl rfl rfl rfl
        | none =>
          cases hd : recordOf e.dest with
          | some p =>
            rw [unicast p hq (recordOf_eq_some.1 hd)]
            refine hs.sendsEntry idle active he waiting _ (destPaused_congr fun r => ?_) rfl rfl rfl rfl rfl
            dsimp only
            rw [setRecord_get]
            by_cases same : r = p <;> simp [same]
          | none =>
            have live := (hs.entries h e he (by rw [waiting]; rfl)).live
            rw [requestFrame_free free]
            refine hs.sendsEntry idle active he waiting (entrySequence s e) (destPaused_congr fun r => ?_) ?_ ?_ ?_ ?_ ?_ <;>
              simp [chosenTaken, he, advanceSequence, hq, hd, setEntry, setCurrent, setLine, setSlot, requested, newOwnFrame,
                chosenKind, chosenJoining, entrySequence]
  · rw [requestFrame_busy (by tauto)]
    exact hs

theorem QueueRest.replies (hs : QueueRest s) {r : PendingReply} (hr : s.rpu.pending = some r) (waits : r.sending = false) :
    QueueRest (sendReply r s) := by
  have base : ∀ (l : LineInterface) (x : Option PendingReply) (c : Counters),
      (∀ o, l.own = some o → FrameSound { s with lif := l, rpu := { s.rpu with pending := x } } o) →
      QueueRest { s with lif := l, rpu := { s.rpu with pending := x }, counters := c } := by
    intro l x c own
    refine ⟨fun k e he live => ?_, hs.current, hs.wait, fun o ho => ⟨(own o ho).chosen, (own o ho).reply⟩⟩
    have sound := hs.entries k e he live
    exact ⟨⟨sound.live.attempts, sound.live.collisions, sound.live.destination, sound.live.held, sound.live.waiting,
      sound.live.sequence⟩, sound.joined, sound.flying, sound.queued, sound.awaiting⟩
  unfold sendReply
  split
  · refine base _ _ _ fun o ho => ?_
    obtain rfl := Option.some.inj ho
    exact ⟨fun other => (by cases other), fun _ => ⟨rfl, _, rfl, rfl⟩⟩
  · refine base s.lif none s.counters fun o ho => ⟨(hs.own o ho).chosen, fun replies => ?_⟩
    obtain ⟨-, r', pending, sending⟩ := (hs.own o ho).reply replies
    obtain rfl := Option.some.inj (hr.symm.trans pending)
    rw [waits] at sending
    cases sending

/-! ### The moves of the station (R152 to R154, R158) -/

theorem QueueRest.toStation (hs : QueueRest s) {st : StationState} (round : Option Nat)
    (h : (s.stc.station = .listening ∧ st = .announcing) ∨ (s.stc.station = .announcing ∧ st = .active) ∨
      (joined s = true ∧ st = .halted)) : QueueRest (setStation st round s) := by
  refine ⟨fun k e he live => ?_, hs.current, hs.wait, fun o ho => ⟨(hs.own o ho).chosen, (hs.own o ho).reply⟩⟩
  have sound := hs.entries k e he live
  refine ⟨⟨sound.live.attempts, sound.live.collisions, sound.live.destination, sound.live.held, sound.live.waiting,
    sound.live.sequence⟩, ?_, fun flying => ?_, fun _ => ?_, sound.awaiting⟩
  · rcases h with ⟨-, rfl⟩ | ⟨-, rfl⟩ | ⟨-, rfl⟩ <;> simp [setStation]
  · obtain ⟨flew, notListening, notAnnouncing⟩ := sound.flying flying
    refine ⟨flew, ?_⟩
    rcases h with ⟨was, rfl⟩ | ⟨was, rfl⟩ | ⟨-, rfl⟩
    · exact absurd was notListening
    · exact absurd was notAnnouncing
    · simp [setStation]
  · rcases h with ⟨-, rfl⟩ | ⟨-, rfl⟩ | ⟨-, rfl⟩ <;> simp [setStation]

/-- Where LEAVE completes, no entry is left that is not COMPLETE (R75, R156). -/
theorem QueueRest.left (hs : QueueRest s) (done : ∀ (k : Fin 16) (e : Entry), s.txq.entries[k] = some e →
    e.state.isComplete = true) : QueueRest (leaveCompletion s) := by
  unfold leaveCompletion
  rw [offerNotice_eq]
  refine ⟨fun k e he live => ?_, hs.current, hs.wait, fun o ho => ⟨(hs.own o ho).chosen, (hs.own o ho).reply⟩⟩
  rw [done k e he] at live
  cases live

theorem QueueRest.allDone (hs : QueueRest s) (leaving : s.stc.station = .leaving) (idle : s.txq.current = none) (k : Fin 16)
    (e : Entry) (he : s.txq.entries[k] = some e) : e.state.isComplete = true := by
  by_contra live
  rw [Bool.not_eq_true] at live
  rcases inFlight_or_queued live with flying | queued
  · exact hs.noneInFlight idle he flying
  · exact (hs.entries k e he live).queued queued leaving

/-! ### Every act -/

theorem Unrelated.requeued (h : Unrelated s t) (hs : QueueRest s) : Requeued s t :=
  .of_entries hs h.config h.station h.current (by rw [h.rpu]) h.entries (fun d => by unfold destPaused; rw [h.table]) h.own
    (.inr fun r hr _ => by rw [h.rpu, hr])

theorem Act.queue (h : Act strict s t) (known : strict) (hs : QueueRest s) : QueueRest t := by
  cases h with
  | unrelated _ same => exact hs.requeued (same.requeued hs)
  | presence p taken => exact hs.requeued (refreshPresence_requeued hs p)
  | pause p cause taken present => exact hs.requeued (pausePeer_requeued hs p cause)
  | resume p cause => exact hs.requeued (resumePeer_requeued hs p cause)
  | lose p => exact hs.requeued (losePeer_requeued hs p)
  | received p q taken =>
    refine hs.requeued (.of_entries hs rfl rfl rfl rfl rfl (destPaused_congr fun r => ?_)
      (fun o ho => ⟨o, ho, rfl, rfl, rfl⟩) (.inr fun r hr _ => hr))
    change (setRecord p _ s.ptb).records[r].paused = _
    rw [setRecord_get]
    by_cases same : r = p <;> simp [same]
  | tick => exact hs.requeued (tickRecords_requeued hs)
  | beaconTimer timer h =>
    exact hs.requeued (.of_entries hs rfl rfl rfl rfl rfl (fun _ => rfl) (fun o ho => ⟨o, ho, rfl, rfl, rfl⟩)
      (.inr fun r hr _ => hr))
  | pending x h =>
    exact hs.requeued (.of_entries hs rfl rfl rfl rfl rfl (fun _ => rfl) (fun o ho => ⟨o, ho, rfl, rfl, rfl⟩) h)
  | candidate w hw =>
    refine ⟨fun k e he live => ?_, hs.current, fun w' hw' => ?_, fun o ho => ⟨(hs.own o ho).chosen, (hs.own o ho).reply⟩⟩
    · have sound := hs.entries k e he live
      refine ⟨⟨sound.live.attempts, sound.live.collisions, sound.live.destination, sound.live.held, sound.live.waiting,
        sound.live.sequence⟩, sound.joined, sound.flying, sound.queued, fun awaiting => ?_⟩
      obtain ⟨unicast, w', wait, named⟩ := sound.awaiting awaiting
      obtain rfl := Option.some.inj (hw.symm.trans wait)
      exact ⟨unicast, _, rfl, named⟩
    · cases hw'
      exact hs.wait w hw
  | endWait w o hw full => exact hs.endWait hw o
  | outcome o free => exact hs.outcome free o
  | station st round h => exact hs.toStation round h
  | left leaving ended => exact hs.left (hs.allDone leaving (ended known))
  | request c hc => exact hs.request hc
  | reply r hr waits => exact hs.replies hr waits

theorem Act.config (h : Act strict s t) : t.stc.config = s.stc.config := by
  cases h
  case unrelated same => exact same.config
  case station st round h => rfl
  case left leaving ended =>
    unfold leaveCompletion
    rw [offerNotice_eq]
    rfl
  case received => rfl
  case request c hc =>
    unfold requestFrame
    split <;> simp [setLine]
  all_goals simp

theorem Acts.config (h : Acts strict s t) : t.stc.config = s.stc.config := by
  induction h with
  | refl => rfl
  | tail _ last ih => exact last.config.trans ih

/-- What an event knows of the state when it takes an act. -/
structure Ready (strict : Prop) (s : State) : Prop where
  config : ConfigLaw s.stc.config
  queue : strict → QueueRest s

theorem Act.ready (h : Act strict s t) (hs : Ready strict s) : Ready strict t :=
  ⟨h.config ▸ hs.config, fun known => h.queue known (hs.queue known)⟩

theorem Acts.ready (h : Acts strict s t) (hs : Ready strict s) : Ready strict t := by
  induction h with
  | refl => exact hs
  | tail _ last ih => exact last.ready ih

end Sys2Proof.Machine

/-! PROOFS. Every event of the part, the host's commands aside, is made of acts; and in LEAVING the entry in flight stays the
current frame until LEAVE completes (R156, R157). -/

namespace Sys2Proof.Machine

variable {s t u : State} {strict : Prop} {f : GoodFrame}

/-! ### Acts that keep the attempt in flight -/

/-- Acts, after which in LEAVING an entry is in flight, as before them (R156). -/
structure Run (strict : Prop) (s t : State) : Prop where
  acts : Acts strict s t
  flies : strict → Flying s → Flying t

theorem Run.refl : Run strict s s := ⟨.refl, fun _ h => h⟩

theorem Run.trans (h : Run strict s t) (h' : Run strict t u) : Run strict s u :=
  ⟨h.acts.trans h'.acts, fun known flies => h'.flies known (h.flies known flies)⟩

/-- Acts that touch neither the current frame nor the station. -/
theorem Run.quiet (acts : Acts strict s t) (current : t.txq.current = s.txq.current)
    (station : t.stc.station = s.stc.station) : Run strict s t :=
  ⟨acts, fun _ flies => by unfold Flying; rwa [current, station]⟩

/-- Acts that end outside LEAVING. -/
theorem Run.elsewhere (acts : Acts strict s t) (h : t.stc.station ≠ .leaving) : Run strict s t :=
  ⟨acts, fun _ _ leaving => absurd leaving h⟩

theorem Run.of_unrelated (h : Unrelated s t) : Run strict s t :=
  .quiet (.single (.unrelated s t h)) h.current h.station

theorem Unrelated.of_same (stc : t.stc = s.stc) (txq : t.txq = s.txq) (ptb : t.ptb = s.ptb) (rpu : t.rpu = s.rpu)
    (lif : t.lif = s.lif) : Unrelated s t :=
  ⟨by rw [stc], by rw [stc], by rw [txq], by rw [txq], ptb, rpu, fun o ho => ⟨o, lif ▸ ho, rfl, rfl, rfl⟩⟩

theorem Run.of_same (stc : t.stc = s.stc) (txq : t.txq = s.txq) (ptb : t.ptb = s.ptb) (rpu : t.rpu = s.rpu)
    (lif : t.lif = s.lif) : Run strict s t := .of_unrelated (.of_same stc txq ptb rpu lif)

theorem Run.config (h : Run strict s t) : t.stc.config = s.stc.config := h.acts.config

theorem Run.ready (h : Run strict s t) (hs : Ready strict s) : Ready strict t := h.acts.ready hs

/-! ### Access Ladder and Station Control -/

theorem ladderUnknown_run : Run strict s (ladderUnknown s) :=
  .of_same (by simp) (by simp) (by simp) (by simp) (by simp)

theorem offerNotice_run (n : Notice) : Run strict s (offerNotice n s) :=
  .of_same (by simp) (by simp) (by simp) (by simp) (by simp)

theorem enterAnnouncing_run (h : s.stc.station = .listening) : Run strict s (enterAnnouncing s) := by
  refine .elsewhere ((Relation.ReflTransGen.single (.station s .announcing none (.inl ⟨h, rfl⟩))).tail (.unrelated _ _ ?_))
    (by simp [enterAnnouncing, setBeacon, setStation])
  exact ⟨rfl, rfl, rfl, rfl, rfl, rfl, fun o ho => ⟨o, ho, rfl, rfl, rfl⟩⟩

theorem ladderHeard_run (n : Nat) : Run strict s (ladderHeard n s) := by
  unfold ladderHeard learned
  split
  · have sender : Run strict s (setLastSender (some n) s) := .of_same rfl rfl rfl rfl rfl
    split
    · rename_i listening
      exact sender.trans (enterAnnouncing_run listening)
    · exact sender
  · exact .refl

theorem ladderOutcome_run (kind : FrameKind) (o : OwnOutcome) : Run strict s (ladderOutcome kind o s) := by
  refine .of_same ?_ ?_ ?_ ?_ ?_ <;> simp

theorem handMismatch_run (f : GoodFrame) : Run strict s (handMismatch f s) := by
  unfold handMismatch
  split
  · exact (offerNotice_run _).trans ladderUnknown_run
  · exact .refl

theorem ladderFrame_run (f : GoodFrame) : Run strict s (ladderFrame f s) := by
  unfold ladderFrame
  split
  · exact ladderHeard_run _
  · exact .refl

/-! ### Peer Table -/

theorem refreshPresence_run (p : Fin 32) (taken : claimsTaken s p = true) : Run strict s (refreshPresence p s) :=
  .quiet (.single (.presence s p taken)) (by simp) (by simp)

theorem pausePeer_run (p : Fin 32) (cause : PauseCause) (taken : claimsTaken s p = true)
    (present : s.ptb.records[p].present = true) : Run strict s (pausePeer p cause s) := by
  refine .quiet (.single (.pause s p cause taken present)) ?_ (by simp)
  obtain ⟨state, -⟩ := pausePeer_eq p cause s
  rw [state]

theorem resumePeer_run (p : Fin 32) (cause : ResumeCause) : Run strict s (resumePeer p cause s) := by
  refine .quiet (.single (.resume s p cause)) ?_ (by simp)
  obtain ⟨state, -⟩ := resumePeer_eq p cause s
  rw [state]

theorem losePeer_run (p : Fin 32) : Run strict s (losePeer p s) := by
  refine .quiet (.single (.lose s p)) ?_ (by simp)
  obtain ⟨state, -⟩ := losePeer_lost p s
  rw [state]

theorem received_run (p : Fin 32) (q : Option Byte) (taken : claimsTaken s p = true) :
    Run strict s (setPeer p { s.ptb.records[p] with lastReceived := q } s) :=
  .quiet (.single (.received s p q taken)) rfl rfl

theorem kindClaims_run (p : Fin 32) (f : GoodFrame) (taken : claimsTaken s p = true)
    (present : s.ptb.records[p].present = true) : Run strict s (kindClaims p f s) := by
  unfold kindClaims
  cases f.kind with
  | pause => exact pausePeer_run p _ taken present
  | resume => exact resumePeer_run p _
  | beacon =>
    dsimp only
    split
    · exact (received_run p none taken).trans (resumePeer_run p .hello)
    · exact .refl
  | data => exact .refl
  | ack => exact .refl

theorem refreshPresence_present (p : Fin 32) (s : State) : (refreshPresence p s).ptb.records[p].present = true := by
  obtain ⟨state, -⟩ := refreshPresence_eq p s
  rw [state]
  dsimp only
  rw [setRecord_get, if_pos rfl]

theorem refreshPresence_taken (p q : Fin 32) (s : State) : claimsTaken (refreshPresence p s) q = claimsTaken s q := by
  obtain ⟨state, -⟩ := refreshPresence_eq p s
  rw [state]
  rfl

theorem peerFrame_run (f : GoodFrame) : Run strict s (peerFrame f s) := by
  unfold peerFrame
  cases recordOf f.source with
  | none => exact .refl
  | some p =>
    dsimp only
    split
    · rename_i taken
      exact (refreshPresence_run p taken).trans
        (kindClaims_run p f (by rw [refreshPresence_taken, taken]) (refreshPresence_present p s))
    · exact .refl

theorem peerOutcome_run (o : OwnOutcome) : Run strict s (peerOutcome o s) := by
  unfold peerOutcome
  split
  · rename_i h
    simp only [Bool.and_eq_true, joined_iff] at h
    exact .quiet (.single (.beaconTimer s _ fun unjoined => absurd unjoined h.1)) rfl rfl
  · exact .refl

/-! ### Receiver side of the Reply Unit -/

theorem pending_run (x : Option PendingReply)
    (h : s.lif.own = none ∨ ∀ r, s.rpu.pending = some r → r.sending = true → x = some r) :
    Run strict s { s with rpu := { s.rpu with pending := x } } := .quiet (.single (.pending s x h)) rfl rfl

theorem abandonReply_run : Run strict s (abandonReply s) := by
  unfold abandonReply
  cases hp : s.rpu.pending with
  | none => exact .refl
  | some r =>
    dsimp only
    split
    · exact .refl
    · rename_i waits
      exact pending_run none (.inr fun r' hr sending => absurd (Option.some.inj (hp.symm.trans hr) ▸ sending) waits)

theorem createReply_run (f : GoodFrame) (r : ReplyResult) : Run strict s (createReply f r s) := by
  unfold createReply
  cases hp : s.rpu.pending with
  | none => exact pending_run _ (.inr fun r' hr _ => by rw [hp] at hr; cases hr)
  | some old =>
    dsimp only
    split
    · exact .refl
    · rename_i waits
      exact pending_run _ (.inr fun r' hr sending => absurd (Option.some.inj (hp.symm.trans hr) ▸ sending) waits)

theorem storeFrame_run (broadcast : Bool) (f : GoodFrame) : Run strict s (storeFrame broadcast f s) :=
  .of_same (by simp) (by simp) (by simp) (by simp) (by simp)

theorem setLastReceived_run (source seq : Byte) (joins : joined s = true) : Run strict s (setLastReceived source seq s) := by
  unfold setLastReceived
  cases recordOf source with
  | none => exact .refl
  | some p =>
    dsimp only
    split
    · rename_i used
      exact received_run p _ (by rw [claimsTaken, joins, used]; rfl)
    · exact .refl

theorem acceptUnicast_run (f : GoodFrame) : Run strict s (acceptUnicast f s) := by
  unfold acceptUnicast
  split
  · rename_i forUs
    have joins : joined s = true := by
      simp only [isForUs, Bool.and_eq_true] at forUs
      exact receives_joined forUs.2
    refine Run.trans ?_ (createReply_run f _)
    unfold applyDecision
    cases decision f s with
    | duplicate => exact .of_same rfl rfl rfl rfl rfl
    | taken => exact (setLastReceived_run _ _ joins).trans (storeFrame_run false f)
    | full => exact .refl
  · exact .refl

theorem admitBroadcast_run (f : GoodFrame) : Run strict s (admitBroadcast f s) :=
  .of_same (by simp) (by simp) (by simp) (by simp) (by simp)

/-! ### The reply wait (R86 to R90, R157) -/

theorem failAttempt_current (h : Fin 16) (e : Entry) (o : Option EntryOutcome) (s : State) :
    (failAttempt h e o s).txq.current = s.txq.current := by
  unfold failAttempt
  split
  · rw [completeEntry_eq]
    rfl
  · cases o with
    | some o =>
      dsimp only
      rw [completeEntry_eq]
      rfl
    | none =>
      dsimp only
      rw [returnEntry_eq]
      rfl

theorem replyOutcome_current {h : Fin 16} {e : Entry} (he : s.txq.entries[h] = some e) (awaiting : e.state = .awaitingReply)
    (o : ReplyOutcome) : (replyOutcome h o s).txq.current = none := by
  unfold replyOutcome
  simp only [he, awaiting, if_true]
  cases o with
  | taken =>
    dsimp only
    rw [completeEntry_eq]
    rfl
  | duplicate =>
    dsimp only
    rw [completeEntry_eq]
    rfl
  | full => exact failAttempt_current _ _ _ _
  | noReply => exact failAttempt_current _ _ _ _

theorem endWait_current (hs : QueueRest s) {w : ReplyWait} (hw : s.rpu.wait = some w) (o : ReplyOutcome) :
    (endWait w o s).txq.current = none := by
  obtain ⟨e, he, awaiting⟩ := hs.wait w hw
  unfold endWait
  cases o with
  | taken => exact replyOutcome_current (s := { s with rpu := { s.rpu with wait := none } }) he awaiting _
  | duplicate => exact replyOutcome_current (s := { s with rpu := { s.rpu with wait := none } }) he awaiting _
  | noReply => exact replyOutcome_current (s := { s with rpu := { s.rpu with wait := none }, counters := _ }) he awaiting _
  | full =>
    dsimp only
    rw [peerFull_withReply]
    have rpu : (peerFull w.dest s).rpu = s.rpu := by simp
    obtain ⟨e', he', awaiting'⟩ := (hs.peerFull w.dest).wait w (by rw [rpu, hw])
    exact replyOutcome_current (s := { peerFull w.dest s with rpu := { s.rpu with wait := none } }) he' awaiting' _

theorem endWait_wait (w : ReplyWait) (o : ReplyOutcome) (s : State) : (endWait w o s).rpu.wait = none := by
  unfold endWait
  cases o <;> simp

/-- An event at the reply wait, and LEAVE's completion once the wait has ended (R157, R171). -/
theorem afterWait_run (hs : Ready strict s) (acts : Acts strict s t)
    (none : s.rpu.wait = none → t.txq.current = s.txq.current ∧ t.stc.station = s.stc.station)
    (ended : strict → s.rpu.wait.isSome = true → t.rpu.wait = .none → t.txq.current = .none) :
    Run strict s (afterWait s t) := by
  unfold afterWait
  cases before : s.rpu.wait with
  | none =>
    simp only [Option.isSome_none, Bool.false_and, Bool.false_eq_true, if_false]
    exact .quiet acts (none before).1 (none before).2
  | some w =>
    cases after : t.rpu.wait with
    | some w' =>
      simp only [Option.isNone_some, Bool.and_false, Bool.false_eq_true, if_false]
      refine ⟨acts, fun known _ _ => ?_⟩
      have rest := (acts.ready hs).queue known
      obtain ⟨e, he, awaiting⟩ := rest.wait w' after
      have flying : e.state.inFlight = true := by rw [awaiting]; rfl
      exact ⟨_, ((rest.entries _ e he (inFlight_incomplete flying)).flying flying).1⟩
    | none =>
      simp only [Option.isSome_some, Option.isNone_none, Bool.and_self, if_true]
      unfold attemptEnded
      split
      · rename_i leaving
        refine .elsewhere (acts.tail (.left t leaving fun known => ended known (by rw [before]; rfl) after)) ?_
        unfold leaveCompletion
        rw [offerNotice_eq]
        simp [setBeacon, clearTable, setLastSender, setStation]
      · rename_i other
        exact .elsewhere acts other

/-- The wait ends without reply (R87, R88). -/
theorem endWait_run (hs : Ready strict s) {w : ReplyWait} (hw : s.rpu.wait = some w) :
    Run strict s (afterWait s (endWait w .noReply s)) :=
  afterWait_run hs (.single (.endWait s w .noReply hw (by simp))) (fun h => by rw [hw] at h; cases h)
    fun known _ _ => endWait_current (hs.queue known) hw _

theorem afterWait_same (s : State) : afterWait s s = s := by
  unfold afterWait
  cases h : s.rpu.wait <;> simp

theorem handNoise_run (hs : Ready strict s) : Run strict s (handNoise s) := by
  have counted : Run strict s { s with counters := { s.counters with noise := countUp s.counters.noise } } :=
    .of_same rfl rfl rfl rfl rfl
  have claims := (counted.trans ladderUnknown_run).trans abandonReply_run
  unfold handNoise
  dsimp only
  refine claims.trans ?_
  have ready := claims.ready hs
  generalize abandonReply (ladderUnknown _) = u at *
  unfold waitNoise
  cases hw : u.rpu.wait with
  | none =>
    rw [afterWait_same]
    exact .refl
  | some w =>
    dsimp only
    split
    · rw [afterWait_same]
      exact .refl
    · exact endWait_run ready hw

theorem handBad_run (hs : Ready strict s) (cause : BadCause) : Run strict s (handBad cause s) := by
  have counted : Run strict s { s with counters := s.counters.countBad cause } := .of_same rfl rfl rfl rfl rfl
  have claims := (counted.trans ladderUnknown_run).trans abandonReply_run
  unfold handBad
  dsimp only
  refine claims.trans ?_
  have ready := claims.ready hs
  generalize abandonReply (ladderUnknown _) = u at *
  unfold waitBad
  cases hw : u.rpu.wait with
  | none =>
    rw [afterWait_same]
    exact .refl
  | some w => exact endWait_run ready hw

theorem handLead_run : Run strict s (handLead s) := by
  unfold handLead
  refine abandonReply_run.trans ?_
  generalize abandonReply s = u
  unfold waitLead
  cases hw : u.rpu.wait with
  | none => exact .refl
  | some w => exact .quiet (.single (.candidate u w hw)) rfl rfl

/-- A good frame at the reply wait, and what comes after it in the event (R88, R89, R157). -/
theorem goodFrame_run (hs : Ready strict s) {g : State → State} (after : ∀ v, Run strict v (g v))
    (keeps : ∀ v, (g v).txq = v.txq ∧ (g v).stc = v.stc)
    (full : ∀ w, s.rpu.wait = some w → judgeReply w f s = .full → ∀ p : Fin 32, w.dest = byteOf p.val →
      claimsTaken s p = true → s.ptb.records[p].present = true) :
    Run strict s (afterWait s (g (waitGood f s))) := by
  cases hw : s.rpu.wait with
  | none =>
    have same : waitGood f s = s := by rw [waitGood, hw]
    rw [same]
    exact afterWait_run hs (after s).acts (fun _ => ⟨by rw [(keeps s).1], by rw [(keeps s).2]⟩)
      fun _ some => by rw [hw] at some; cases some
  | some w =>
    have ends : waitGood f s = endWait w (judgeReply w f s) s := by rw [waitGood, hw]
    rw [ends]
    refine afterWait_run hs ((Relation.ReflTransGen.single (.endWait s w _ hw (full w hw))).trans (after _).acts)
      (fun h => by rw [hw] at h; cases h) fun known _ _ => ?_
    rw [(keeps _).1]
    exact endWait_current (hs.queue known) hw _

theorem judgeReply_full {w : ReplyWait} (h : judgeReply w f s = .full) : f.source = w.dest ∧ f.kind = .ack := by
  unfold judgeReply at h
  split at h
  · rename_i answers
    simp only [answersWait, Bool.and_eq_true, decide_eq_true_eq] at answers
    exact ⟨answers.1.2, answers.1.1.1⟩
  · cases h

theorem ownRecord_unused (config : ConfigLaw s.stc.config) {p : Fin 32} (own : ownByte s = byteOf p.val) :
    claimsTaken s p = false := by
  have values := congrArg BitVec.toNat own
  have small := config.ownNumber
  rw [ownByte, byteOf_toNat_of_lt (by omega), byteOf_toNat_of_lt (by omega)] at values
  simp [claimsTaken, recordInUse, values]

theorem handClash_run (hs : Ready strict s) (own : f.source = ownByte s) : Run strict s (handClash f s) := by
  have claims : Run strict s (if f.kind = .ack then offerNotice (sourceNotice .numberClash f) s
      else ladderHeard s.stc.config.ownNumber (offerNotice (sourceNotice .numberClash f) s)) := by
    split
    · exact offerNotice_run _
    · exact (offerNotice_run _).trans (ladderHeard_run _)
  have config : (if f.kind = .ack then offerNotice (sourceNotice .numberClash f) s
      else ladderHeard s.stc.config.ownNumber (offerNotice (sourceNotice .numberClash f) s)).stc.config = s.stc.config :=
    claims.config
  unfold handClash
  dsimp only
  have stc : (offerNotice (sourceNotice .numberClash f) s).stc = s.stc := by simp
  rw [stc]
  refine claims.trans ?_
  have ready := claims.ready hs
  generalize (if f.kind = .ack then offerNotice (sourceNotice .numberClash f) s
      else ladderHeard s.stc.config.ownNumber (offerNotice (sourceNotice .numberClash f) s)) = u at *
  refine goodFrame_run (g := fun v => v) ready (fun v => .refl) (fun v => ⟨rfl, rfl⟩) fun w hw full p dest taken => ?_
  have source := (judgeReply_full full).1
  rw [ownRecord_unused ready.config (by rw [ownByte, config, ← ownByte, ← own, source, dest])] at taken
  cases taken

theorem handOthers_run (hs : Ready strict s) : Run strict s (handOthers f s) := by
  have ladder := (handMismatch_run (strict := strict) (s := s) f).trans (ladderFrame_run f)
  unfold handOthers
  dsimp only
  refine ladder.trans ?_
  have ready := ladder.ready hs
  generalize ladderFrame f (handMismatch f s) = u at *
  have claims := peerFrame_run (strict := strict) (s := u) f
  refine claims.trans (goodFrame_run (g := fun v => admitBroadcast f (acceptUnicast f v)) (claims.ready ready)
    (fun v => (acceptUnicast_run f).trans (admitBroadcast_run f)) (fun v => ⟨by simp, by simp⟩)
    fun w _ full p dest taken => ?_)
  obtain ⟨source, kind⟩ := judgeReply_full full
  have record : recordOf f.source = some p := by rw [source, dest, recordOf_byteOf]
  have stc : (peerFrame f u).stc = u.stc := by simp
  have taken' : claimsTaken u p = true := by
    rw [← taken]
    simp only [claimsTaken, joined, recordInUse, stc]
  rw [peerFrame, record]
  simp only [taken', if_true, kindClaims, kind]
  exact refreshPresence_present p u

end Sys2Proof.Machine

/-! PROOFS. The events of the line, of the slow timers and of the idle time as acts (R8 to R15, R19 to R28, R82, R87, R100 to
R105). -/

namespace Sys2Proof.Machine

variable {s t u : State} {strict : Prop} {f : GoodFrame}

/-! ### The Frame Receiver (R8 to R15) -/

theorem setReceiver_run (r : FrameReceiver) : Run strict s (setReceiver r s) := .of_same rfl rfl rfl rfl rfl

theorem handGood_run (hs : Ready strict s) : Run strict s (handGood f s) := by
  have counted : Run strict s { s with counters := { s.counters with goodFrames := countUp s.counters.goodFrames } } :=
    .of_same rfl rfl rfl rfl rfl
  unfold handGood
  dsimp only
  refine counted.trans ?_
  split
  · rename_i own
    simp only [Bool.and_eq_true, decide_eq_true_eq] at own
    exact handClash_run (counted.ready hs) own.2
  · exact handOthers_run (counted.ready hs)

theorem handPassed_run (hs : Ready strict s) (a : Assembly) : Run strict s (handPassed a f s) := by
  unfold handPassed handSurvivor
  split
  · split
    · split
      · rename_i own
        simp only [Bool.and_eq_true, decide_eq_true_eq] at own
        exact handClash_run hs own.1.2
      · exact .refl
    · exact .refl
  · exact handGood_run hs

theorem failFrame_run (hs : Ready strict s) (a : Assembly) (cause : BadCause) (next : FrameReceiver) :
    Run strict s (failFrame a cause next s) := by
  have receiver : Run strict s (setReceiver next s) := setReceiver_run next
  unfold failFrame
  dsimp only
  split
  · exact receiver
  · exact receiver.trans (handBad_run (receiver.ready hs) cause)

theorem receiveCharacter_run (hs : Ready strict s) (value : Byte) (stop own : Bool) :
    Run strict s (receiveCharacter value stop own s) := by
  unfold receiveCharacter
  cases s.frx with
  | draining => exact .refl
  | awaitSync =>
    dsimp only [takeSync]
    split
    · split
      · exact setReceiver_run _
      · exact (setReceiver_run _).trans handLead_run
    · exact handNoise_run hs
  | inFrame a =>
    dsimp only [takeInFrame]
    cases takeCharacter a value stop with
    | goesOn a' => exact setReceiver_run _
    | fails cause => exact failFrame_run hs a cause _
    | failsAtEnd cause => exact failFrame_run hs a cause _
    | passes =>
      have receiver : Run strict s (setReceiver .awaitSync s) := setReceiver_run _
      dsimp only [passFrame]
      cases goodFrameOf a with
      | none => exact receiver
      | some f => exact receiver.trans (handPassed_run (receiver.ready hs) a)

theorem receiveGap_run (hs : Ready strict s) : Run strict s (receiveGap s) := by
  unfold receiveGap
  cases s.frx with
  | awaitSync => exact .refl
  | inFrame a => exact failFrame_run hs a _ _
  | draining => exact setReceiver_run _

/-! ### The Line Interface (R22 to R27) -/

/-- The Line Interface replaced by one with the same own frame, its comparison aside, or none. -/
theorem setLine_run (l : LineInterface) (own : ∀ o, l.own = some o → ∃ o', s.lif.own = some o' ∧ o.kind = o'.kind ∧
    o.joining = o'.joining ∧ o.requester = o'.requester) : Run strict s (setLine l s) :=
  .of_unrelated ⟨rfl, rfl, rfl, rfl, rfl, rfl, own⟩

theorem judged_own {l : LineInterface} {c : Comparison} {o : OwnFrame} (h : (l.judged c).own = some o) :
    ∃ o', l.own = some o' ∧ o.kind = o'.kind ∧ o.joining = o'.joining ∧ o.requester = o'.requester := by
  obtain ⟨o', ho', rfl⟩ := Option.map_eq_some_iff.1 h
  exact ⟨o', ho', rfl, rfl, rfl⟩

theorem settle_own {l : LineInterface} {o : OwnFrame} (h : l.settle.own = some o) :
    ∃ o', l.own = some o' ∧ o.kind = o'.kind ∧ o.joining = o'.joining ∧ o.requester = o'.requester := by
  unfold LineInterface.settle at h
  split at h
  · exact judged_own h
  · exact ⟨o, h, rfl, rfl, rfl⟩

theorem cut_own {l : LineInterface} {c : Comparison} {o : OwnFrame} (h : (l.cut c).own = some o) :
    ∃ o', l.own = some o' ∧ o.kind = o'.kind ∧ o.joining = o'.joining ∧ o.requester = o'.requester := by
  unfold LineInterface.cut at h
  dsimp only at h
  split at h <;> exact judged_own (c := c) h

theorem collide_run : Run strict s (collide s) :=
  .of_unrelated ⟨rfl, rfl, rfl, rfl, rfl, rfl, fun _ ho => cut_own ho⟩

theorem compareEcho_run (value : Byte) (stop : Bool) : Run strict s (compareEcho value stop s) := by
  unfold compareEcho
  cases s.lif.own with
  | none => exact .refl
  | some own =>
    dsimp only
    split
    · cases s.lif.echo with
      | cons c rest =>
        dsimp only
        split
        · exact setLine_run _ fun _ ho => settle_own (l := { s.lif with echo := rest }) ho
        · exact collide_run
      | nil =>
        cases s.lif.transmitter with
        | lead => exact collide_run
        | sending => exact collide_run
        | trailing => exact .refl
        | off => exact .refl
    · exact .refl

theorem currentOutcome_current (o : OwnOutcome) (s : State) :
    (currentOutcome o s).txq.current = none ∨ (currentOutcome o s).txq.current = s.txq.current := by
  unfold currentOutcome
  cases hc : s.txq.current with
  | none => exact .inl hc
  | some c =>
    cases c with
    | announcement a => exact .inl rfl
    | beacon j => cases o <;> exact .inl rfl
    | entry h =>
      dsimp only
      cases s.txq.entries[h] with
      | none => exact .inr hc
      | some e =>
        dsimp only
        split
        · cases o with
          | clean =>
            unfold entryOutcome entryClean
            dsimp only
            split
            · exact .inl rfl
            · exact .inr hc
          | collided => exact .inl (failAttempt_current _ _ _ _)
          | echoLost => exact .inl (failAttempt_current _ _ _ _)
        · exact .inr hc

theorem attemptEnded_notLeaving (s : State) : (attemptEnded s).stc.station ≠ .leaving := by
  unfold attemptEnded
  split
  · unfold leaveCompletion
    rw [offerNotice_eq]
    simp [setBeacon, clearTable, setLastSender, setStation]
  · assumption

/-- Station Control at an own frame's outcome (R153, R154, R157). -/
theorem stationOutcome_run (own : OwnFrame) (o : OwnOutcome) (ended : Bool)
    (idle : ended = true → s.txq.current = none) : Acts strict s (stationOutcome own o ended s) ∧
      ((stationOutcome own o ended s).stc.station = .leaving → ended = false ∧ stationOutcome own o ended s = s) := by
  have ends : ended = true → Acts strict s (attemptEnded s) := fun h => by
    unfold attemptEnded
    split
    · rename_i leaving
      exact .single (.left s leaving fun _ => idle h)
    · exact .refl
  have stays : (attemptEnded s).stc.station = .leaving → ended = false ∧ attemptEnded s = s :=
    fun h => absurd h (attemptEnded_notLeaving s)
  unfold stationOutcome
  cases o with
  | echoLost =>
    dsimp only
    by_cases receiving : receives s = true
    · rw [if_pos receiving]
      unfold enterHalted
      rw [offerNotice_eq]
      refine ⟨?_, fun h => by simp [setStation] at h⟩
      have withdraw : Acts strict s (monitorWithdraw s) := .single (.unrelated _ _ (.of_same rfl rfl rfl rfl rfl))
      have station := withdraw.tail (.station _ .halted none (.inr (.inr ⟨receives_joined receiving, rfl⟩)))
      exact station.tail (.unrelated _ _ (.of_same rfl rfl rfl rfl rfl))
    · rw [if_neg receiving]
      refine ⟨.refl, fun h => ?_⟩
      simp [receives, h] at receiving
  | collided =>
    dsimp only
    by_cases attempt : ended = true
    · rw [if_pos attempt]
      exact ⟨ends attempt, stays⟩
    · rw [if_neg attempt]
      exact ⟨.refl, fun _ => ⟨by simpa using attempt, rfl⟩⟩
  | clean =>
    dsimp only
    by_cases attempt : ended = true
    · rw [if_pos attempt]
      exact ⟨ends attempt, stays⟩
    · rw [if_neg attempt]
      split
      · rename_i active
        simp only [Bool.and_eq_true, decide_eq_true_eq] at active
        unfold enterActive
        rw [offerNotice_eq]
        have station : Acts strict s (setStation .active none s) :=
          .single (.station _ .active none (.inr (.inl ⟨active.2, rfl⟩)))
        have monitor : Unrelated (setStation .active none s) (monitorEntersActive (setStation .active none s)) :=
          .of_same (by simp) (by simp) (by simp) (by simp) (by simp)
        refine ⟨(station.tail (.unrelated _ _ monitor)).tail (.unrelated _ _ (.of_same rfl rfl rfl rfl rfl)), fun h => ?_⟩
        simp [setStation] at h
      · exact ⟨.refl, fun _ => ⟨by simpa using attempt, rfl⟩⟩

theorem requesterOutcome_acts (own : OwnFrame) (o : OwnOutcome) (free : s.lif.own = none) :
    Acts strict s (requesterOutcome own o s) ∧ ((requesterOutcome own o s).txq.current = none ∨
      (requesterOutcome own o s).txq.current = s.txq.current) := by
  unfold requesterOutcome
  cases own.requester with
  | transmitQueue => exact ⟨.single (.outcome s o free), currentOutcome_current o s⟩
  | replyUnit =>
    dsimp only
    cases s.rpu.pending with
    | none => exact ⟨.refl, .inr rfl⟩
    | some r =>
      dsimp only
      split
      · exact ⟨.single (.pending s none (.inl free)), .inr rfl⟩
      · exact ⟨.refl, .inr rfl⟩

theorem handOutcome_run (own : OwnFrame) (o : OwnOutcome) (free : s.lif.own = none) :
    Run strict s (handOutcome own o s) := by
  have claims := (ladderOutcome_run (strict := strict) (s := s) own.kind o).trans (peerOutcome_run o)
  have station : (peerOutcome o (ladderOutcome own.kind o s)).stc = s.stc := by simp
  have queue : (peerOutcome o (ladderOutcome own.kind o s)).txq = s.txq := by simp
  have line : (peerOutcome o (ladderOutcome own.kind o s)).lif = s.lif := by simp
  unfold handOutcome
  dsimp only
  refine claims.trans ?_
  generalize peerOutcome o (ladderOutcome own.kind o s) = u at *
  obtain ⟨requester, current⟩ := requesterOutcome_acts (strict := strict) (s := u) own o (by rw [line, free])
  have monitor : Unrelated (requesterOutcome own o u) (monitorOutcome own.kind o (requesterOutcome own o u)) :=
    .of_same (by simp) (by simp) (by simp) (by simp) (by simp)
  have acts := requester.tail (.unrelated _ _ monitor)
  have same : (monitorOutcome own.kind o (requesterOutcome own o u)).stc = u.stc := by simp
  rw [← monitor.current] at current
  generalize monitorOutcome own.kind o (requesterOutcome own o u) = v at *
  obtain ⟨last, stays⟩ := stationOutcome_run (strict := strict) (s := v) own o (currentIsEntry u && v.txq.current.isNone)
    fun ended => by simp only [Bool.and_eq_true, Option.isNone_iff_eq_none] at ended; exact ended.2
  refine ⟨acts.trans last, fun _ flies leaving => ?_⟩
  obtain ⟨goesOn, state⟩ := stays leaving
  rw [state] at leaving ⊢
  obtain ⟨h, hc⟩ := flies (same ▸ leaving)
  rcases current with gone | kept
  · simp [currentIsEntry, hc, gone] at goesOn
  · exact ⟨h, kept.trans hc⟩

theorem finishOwnFrame_run : Run strict s (finishOwnFrame s) := by
  unfold finishOwnFrame
  cases endedOwnFrame s.lif with
  | none => exact .refl
  | some x =>
    exact (setLine_run { s.lif with own := none } fun _ ho => by cases ho).trans (handOutcome_run _ _ rfl)

/-! ### Ticks and slow timers (R17, R18, R100 to R105) -/

theorem beaconTimer_run (timer : Option Nat) (h : s.ptb.beaconTimer = none → timer = none) :
    Run strict s { s with ptb := { s.ptb with beaconTimer := timer } } :=
  .quiet (.single (.beaconTimer s timer fun _ => h)) rfl rfl

theorem setBeacon_run (b : PendingBeacon) : Run strict s (setBeacon b s) :=
  .of_unrelated ⟨rfl, rfl, rfl, rfl, rfl, rfl, fun o ho => ⟨o, ho, rfl, rfl, rfl⟩⟩

theorem beaconExpires_run : Run strict s (beaconExpires s) := by
  have timer : Run strict s { s with ptb := { s.ptb with beaconTimer := none } } := beaconTimer_run none fun _ => rfl
  unfold beaconExpires
  dsimp only
  split
  · exact timer.trans (setBeacon_run _)
  · exact timer

theorem tickRecords_run : Run strict s (tickRecords s) := by
  refine .quiet (.single (.tick s)) ?_ (by simp)
  obtain ⟨state, -⟩ := tickRecords_counts s
  rw [state]

theorem tickBeacon_run : Run strict s (tickBeacon s) := by
  unfold tickBeacon
  split
  · exact beaconExpires_run
  · exact beaconTimer_run _ fun h => by rw [h]; rfl

theorem tickEvent_run : Run strict s (tickEvent s) := by
  have start : Run strict s (tickBaseWrapped s) := by
    unfold tickBaseWrapped atBoundary
    by_cases h : s.lif.tickBase = 0
    · simp only [h, if_true]
      exact setLine_run _ fun o ho => ⟨o, ho, rfl, rfl, rfl⟩
    · simp only [h, if_false]
      exact setLine_run _ fun o ho => ⟨o, ho, rfl, rfl, rfl⟩
  rw [tickEvent_eq]
  refine ((start.trans tickRecords_run).trans tickBeacon_run).trans ?_
  exact .of_same (by simp) (by simp) (by simp) (by simp) (by simp)

/-- Every event taken out of reset is made of acts. -/
theorem runningEvent_run {i : Instr} {F : State → State} (hf : runningEvent i = some F) (hs : Ready strict s) :
    Run strict s (F s) := by
  have line : ∀ l : LineInterface, l.own = s.lif.own → Run strict s (setLine l s) :=
    fun l own => setLine_run l fun o ho => ⟨o, own ▸ ho, rfl, rfl, rfl⟩
  have stop : Run strict s (lastStopBitEnds s) := by
    unfold lastStopBitEnds
    dsimp only
    split
    · refine setLine_run _ fun o ho => ?_
      split at ho
      · exact settle_own (l := { s.lif with transmitter := .trailing, bitTimer := 0, sending := none }) ho
      · exact ⟨o, ho, rfl, rfl, rfl⟩
    · exact .refl
  cases i <;> cases hf
  case startBit =>
    unfold startBitBegins
    cases s.lif.receiver with
    | armed => exact line _ rfl
    | unarmed high => exact line _ rfl
    | inCharacter lde d => exact .refl
    | holding => exact .refl
  case startBitGlitch =>
    unfold startBitRejected
    split
    · exact line _ rfl
    · exact .refl
  case characterComplete value stop =>
    unfold characterCompletes
    split
    · have heard := line (s.lif.heard (receiverAfter stop) stop) rfl
      exact ((heard.trans (receiveCharacter_run (heard.ready hs) _ _ _)).trans (compareEcho_run _ _)).trans
        finishOwnFrame_run
    · exact .refl
  case holdingRelease =>
    unfold holdingEnds
    split
    · exact line _ rfl
    · exact .refl
  case receiverArmed =>
    unfold receiverArms
    split
    · exact line _ rfl
    · exact .refl
  case ltxStartBit =>
    rcases startBitDue_cases s with ⟨-, h⟩ | ⟨-, h⟩ <;> rw [h]
    · exact stop
    · unfold sendCharacter
      split
      · split
        · exact line _ rfl
        · exact .refl
      · exact .refl
  case lastStopBitEnd => exact stop
  case ldeRelease =>
    unfold ldeReleases
    split
    · exact (line { s.lif with transmitter := .off, lde := false, bitTimer := 0, sending := none } rfl).trans
        finishOwnFrame_run
    · exact .refl
  case echoLoss =>
    unfold echoLossFound
    split
    · exact (setLine_run _ fun _ ho => cut_own ho).trans finishOwnFrame_run
    · exact .refl
  case tick => exact tickEvent_run
  case silenceTimerExpiry p =>
    rcases silenceExpires_cases p s with ⟨-, h⟩ | ⟨-, h⟩
    · exact h ▸ losePeer_run p
    · rw [h]
      exact .refl
  case pauseTimerExpiry p =>
    rcases pauseExpires_cases p s with ⟨-, h⟩ | ⟨-, -, h⟩ | ⟨-, -, h⟩
    · rw [h]
      exact .refl
    · exact h ▸ losePeer_run p
    · exact h ▸ resumePeer_run p _
  case beaconTimerExpiry =>
    unfold beaconTimerEnds
    split
    · exact beaconExpires_run
    · exact .refl
  case refreshTimerExpiry =>
    unfold refreshTimerEnds
    split
    · exact .of_same (by simp) (by simp) (by simp) (by simp) (by simp)
    · exact .refl
  case deliveryTimerExpiry =>
    unfold deliveryTimerEnds
    split
    · exact .of_same (by simp) (by simp) (by simp) (by simp) (by simp)
    · exact .refl

/-! ### Idle-time events (R10, R21, R38, R82, R87, R151) -/

theorem requestFrame_run {c : CurrentFrame} (hc : chooseFrame s = some c) : Run strict s (requestFrame c s) := by
  refine .elsewhere (.single (.request s c hc)) fun leaving => ?_
  have stc : (requestFrame c s).stc = s.stc := by
    unfold requestFrame
    split <;> simp [setLine]
  rw [stc] at leaving
  unfold chooseFrame at hc
  split at hc
  · cases hc
  · rw [leaving] at hc
    cases hc

theorem idleEvent_run {i : Instr} {k : Nat} {F : State → State} (hf : idleEvent s.stc.config i = some (k, F))
    (hs : Ready strict s) : Run strict s (F (setIdle k s)) := by
  have idle : Run strict s (setIdle k s) := by
    rw [setIdle_eq]
    unfold atIdleTime atBoundary
    by_cases h : s.lif.idle < k
    · simp only [h, if_true]
      exact setLine_run _ fun o ho => ⟨o, ho, rfl, rfl, rfl⟩
    · simp only [h, if_false]
      exact setLine_run _ fun o ho => ⟨o, ho, rfl, rfl, rfl⟩
  refine idle.trans ?_
  have ready := idle.ready hs
  generalize setIdle k s = u at *
  cases i <;> cases hf
  case idleGapLimit => exact receiveGap_run ready
  case replyStart =>
    unfold replyStarts
    cases hp : u.rpu.pending with
    | none => exact .refl
    | some r =>
      dsimp only
      split
      · exact .refl
      · rename_i waits
        refine .quiet (.single (.reply u r hp (by simpa using waits))) (by simp) (by simp)
  case replyWindowEnd =>
    unfold windowEnds
    cases hw : u.rpu.wait with
    | none => exact .refl
    | some w =>
      dsimp only
      split
      · exact .refl
      · exact endWait_run ready hw
  case slotOpening =>
    unfold ladderAtIdle slotOpens
    split
    · cases hc : chooseFrame u with
      | none => exact .refl
      | some c => exact requestFrame_run hc
    · exact .refl
  case listeningRoundEnd =>
    unfold listeningAtIdle
    split
    · rename_i listening _
      split
      · exact enterAnnouncing_run listening
      · exact .refl
    · exact .refl

/-- A bit time on the empty queue. -/
theorem bitTime_run : Run strict s (setLine (takeBitTime s).lif.afterBitTime s) := by
  rw [takeBitTime_eq]
  exact setLine_run _ fun o ho => ⟨o, ho, rfl, rfl, rfl⟩

end Sys2Proof.Machine

/-! PROOFS. The peer records stay sound through every act and command (R97). -/

namespace Sys2Proof.Machine

variable {s t : State} {strict : Prop}

/-! ### The law of a record (R97) -/

theorem PeersLaw.of_table (h : PeersLaw s) (table : t.ptb.records = s.ptb.records) : PeersLaw t := fun p => by
  rw [table]
  exact h p

theorem PeersLaw.setRecord (h : PeersLaw s) {p : Fin 32} {r : Peer} (law : PeerLaw r)
    (table : t.ptb.records = (setRecord p r s.ptb).records) : PeersLaw t := fun q => by
  have cell : t.ptb.records[q] = if q = p then r else s.ptb.records[q] := by
    rw [table]
    exact setRecord_get p q r s.ptb
  rw [cell]
  split
  · exact law
  · exact h q

/-- A record that is not paused. -/
theorem PeerLaw.unpaused {r : Peer} (paused : r.paused = false) (timer : r.pauseTimer = none)
    (silence : r.silence.isSome = r.present) (range : ∀ n, r.silence = some n → 1 ≤ n ∧ n ≤ 4095) : PeerLaw r :=
  ⟨by rw [paused, timer]; rfl, silence, fun h => by simp [paused] at h, fun n h => by simp [timer] at h, range⟩

/-- A timer that goes on after a tick stays in its range (R18). -/
theorem timerAfterTick_range {timer : Option Nat} {limit : Nat} (h : ∀ n, timer = some n → 1 ≤ n ∧ n ≤ limit) (n : Nat)
    (hn : timerAfterTick timer = some n) : 1 ≤ n ∧ n ≤ limit := by
  obtain ⟨was, low⟩ := timerAfterTick_eq_some.1 hn
  have := h _ was
  omega

theorem PeerLaw.afterTick {r : Peer} (h : PeerLaw r) : PeerLaw (recordAfterTick r) := by
  unfold recordAfterTick
  by_cases silent : timerExpires r.silence = true
  · rw [if_pos silent]
    exact .unpaused rfl rfl rfl (by simp)
  · rw [if_neg silent]
    have silence : (timerAfterTick r.silence).isSome = r.present := by
      rw [timerAfterTick_isSome, h.silence_timer, Bool.eq_false_iff.2 silent]
      simp
    by_cases pauseEnds : timerExpires r.pauseTimer = true
    · rw [if_pos pauseEnds]
      exact .unpaused rfl rfl silence (timerAfterTick_range h.silence_range)
    · rw [if_neg pauseEnds]
      refine ⟨?_, silence, h.paused_present, timerAfterTick_range h.pause_range, timerAfterTick_range h.silence_range⟩
      change (timerAfterTick r.pauseTimer).isSome = r.paused
      rw [timerAfterTick_isSome, h.pause_timer, Bool.eq_false_iff.2 pauseEnds]
      simp

theorem PeersLaw.pausePeer (h : PeersLaw s) (config : ConfigLaw s.stc.config) {p : Fin 32}
    (present : s.ptb.records[p].present = true) (cause : PauseCause) : PeersLaw (pausePeer p cause s) := by
  obtain ⟨state, -⟩ := pausePeer_eq p cause s
  refine h.setRecord (r := { s.ptb.records[p] with paused := true, pauseTimer := some s.stc.config.pauseHold }) ?_
    (congrArg (fun x => x.ptb.records) state)
  have law := h p
  have hold := config.pauseHold
  refine ⟨rfl, law.silence_timer, fun _ => present, fun n hn => ?_, law.silence_range⟩
  obtain rfl := Option.some.inj hn
  omega

theorem PeersLaw.resumePeer (h : PeersLaw s) (p : Fin 32) (cause : ResumeCause) : PeersLaw (resumePeer p cause s) := by
  obtain ⟨state, -⟩ := resumePeer_eq p cause s
  refine h.setRecord ?_ (congrArg (fun x => x.ptb.records) state)
  have law := h p
  have timer : (if s.ptb.records[p].paused = true then none else s.ptb.records[p].pauseTimer) = none := by
    split
    · rfl
    · rename_i off
      rw [← law.pause_timer] at off
      simpa using off
  rw [timer]
  exact .unpaused rfl rfl law.silence_timer law.silence_range

/-- Of the Peer Table, a request writes the sequence of its entry's destination alone (R60, R108). -/
theorem requestFrame_table (c : CurrentFrame) (s : State) : (requestFrame c s).ptb = s.ptb ∨
    ∃ (h : Fin 16) (e : Entry) (p : Fin 32), c = .entry h ∧ s.txq.entries[h] = some e ∧ recordOf e.dest = some p ∧
      (requestFrame c s).ptb = Machine.setRecord p { s.ptb.records[p] with nextSeq := s.ptb.records[p].nextSeq + 1 } s.ptb := by
  by_cases free : s.lif.transmitter = .off ∧ s.lif.own = none
  · rw [requestFrame_free free]
    cases c with
    | announcement a => exact .inl rfl
    | beacon j => exact .inl rfl
    | entry h =>
      unfold chosenTaken
      dsimp only
      generalize hv : setLine _ s = v
      have queue : v.txq = s.txq := by rw [← hv]; rfl
      have table : v.ptb = s.ptb := by rw [← hv]; rfl
      rw [queue, ← table]
      cases he : s.txq.entries[h] with
      | none => exact .inl rfl
      | some e =>
        dsimp only
        unfold advanceSequence
        split
        · exact .inl rfl
        · rename_i p _ dest
          exact .inr ⟨h, e, p, rfl, he, dest, rfl⟩
        · exact .inl rfl
  · rw [requestFrame_busy (by tauto)]
    exact .inl rfl

theorem Act.peers (h : Act strict s t) (config : ConfigLaw s.stc.config) (hs : PeersLaw s) : PeersLaw t := by
  cases h with
  | unrelated _ same => exact hs.of_table (by rw [same.table])
  | presence p taken =>
    obtain ⟨state, -⟩ := refreshPresence_eq p s
    refine hs.setRecord (r := { s.ptb.records[p] with present := true, silence := some s.stc.config.presenceTimeout }) ?_
      (congrArg (fun x => x.ptb.records) state)
    have law := hs p
    have timeout := config.presenceTimeout
    refine ⟨law.pause_timer, rfl, fun _ => rfl, law.pause_range, fun n hn => ?_⟩
    obtain rfl := Option.some.inj hn
    omega
  | pause p cause taken present => exact hs.pausePeer config present cause
  | resume p cause => exact hs.resumePeer p cause
  | lose p =>
    obtain ⟨state, -⟩ := losePeer_lost p s
    refine hs.setRecord ?_ (congrArg (fun x => x.ptb.records) state)
    exact .unpaused rfl rfl rfl (by simp)
  | received p q taken =>
    have law := hs p
    exact hs.setRecord (r := { s.ptb.records[p] with lastReceived := q })
      ⟨law.pause_timer, law.silence_timer, law.paused_present, law.pause_range, law.silence_range⟩ rfl
  | tick =>
    obtain ⟨-, records, -⟩ := tickRecords_counts s
    intro p
    rw [records p]
    exact (hs p).afterTick
  | beaconTimer timer h => exact hs
  | pending x h => exact hs
  | candidate w hw => exact hs
  | endWait w o hw full =>
    unfold Machine.endWait
    cases o with
    | taken => exact hs.of_table (by simp)
    | duplicate => exact hs.of_table (by simp)
    | noReply => exact hs.of_table (by simp)
    | full =>
      dsimp only
      refine PeersLaw.of_table (s := peerFull w.dest s) ?_ (by rw [peerFull_withReply]; simp)
      unfold peerFull
      cases hd : recordOf w.dest with
      | none => exact hs
      | some p =>
        dsimp only
        split
        · rename_i taken
          exact hs.pausePeer config (full rfl p (recordOf_eq_some.1 hd) taken) _
        · exact hs
  | outcome o free => exact hs.of_table (by simp)
  | station st round h => exact hs
  | left leaving ended =>
    refine peersLaw_afterReset ?_
    unfold leaveCompletion
    rw [offerNotice_eq]
    rfl
  | request c hc =>
    rcases requestFrame_table c s with same | ⟨h, e, p, -, -, -, table⟩
    · exact hs.of_table (by rw [same])
    · have law := hs p
      exact hs.setRecord (r := { s.ptb.records[p] with nextSeq := s.ptb.records[p].nextSeq + 1 })
        ⟨law.pause_timer, law.silence_timer, law.paused_present, law.pause_range, law.silence_range⟩ (by rw [table])
  | reply r hr waits => exact hs.of_table (by simp)

theorem Acts.peers (h : Acts strict s t) (config : ConfigLaw s.stc.config) (hs : PeersLaw s) : PeersLaw t := by
  induction h with
  | refl => exact hs
  | tail first last ih => exact last.peers ((Acts.config first).symm ▸ config) ih

/-! ### Every step -/

theorem peersLaw_leaveStation (h : PeersLaw s) : PeersLaw (leaveStation s) := by
  have kept : (monitorWithdraw (withdrawAll s)).ptb = s.ptb := by simp
  unfold leaveStation
  dsimp only
  split
  · exact h.of_table (by rw [← kept]; rfl)
  · refine peersLaw_afterReset ?_
    unfold leaveCompletion
    rw [offerNotice_eq]
    rfl

theorem fieldWritten_table (f : FieldId) (c : ConfigRecord) (s : State) : (fieldWritten f c s).ptb = s.ptb := by
  cases f <;> rfl

/-- No command but LEAVE writes the Peer Table, and none but it and, in UNJOINED, SET FIELD and JOIN the record and the station
(R97, R145, R147). -/
theorem effectOf_table {c : HostCommand} (other : c ≠ .leave) (s : State) :
    (effectOf c s).1.ptb = s.ptb ∧ (s.stc.station = .unjoined ∨ (effectOf c s).1.stc = s.stc) := by
  cases c
  case leave => exact absurd rfl other
  case setField id v =>
    simp only [effectOf, cmdSetField]
    split
    · rename_i unjoined
      refine ⟨?_, .inl unjoined⟩
      split
      · rfl
      · split
        · rfl
        · exact fieldWritten_table _ _ _
    · exact ⟨rfl, .inr rfl⟩
  case getField id =>
    simp only [effectOf, cmdGetField]
    split <;> exact ⟨rfl, .inr rfl⟩
  case join =>
    simp only [effectOf, cmdJoin]
    split
    · rename_i unjoined
      refine ⟨?_, .inl unjoined⟩
      split
      · rfl
      · simp [joinStation, setLastSender, setStation]
    · exact ⟨rfl, .inr rfl⟩
  case submit dest length payload =>
    simp only [effectOf, cmdSubmit]
    split
    · split
      · exact ⟨rfl, .inr rfl⟩
      · split
        · exact ⟨rfl, .inr rfl⟩
        · simp
    · exact ⟨rfl, .inr rfl⟩
  case cancel b =>
    simp only [effectOf, cmdCancel]
    split
    · exact ⟨rfl, .inr rfl⟩
    · split
      · exact ⟨rfl, .inr rfl⟩
      · split
        · exact ⟨rfl, .inr rfl⟩
        · split <;> exact ⟨rfl, .inr rfl⟩
  case queryEntry b =>
    simp only [effectOf, cmdQueryEntry]
    split
    · exact ⟨rfl, .inr rfl⟩
    · split <;> exact ⟨rfl, .inr rfl⟩
  case readFrame =>
    simp only [effectOf, cmdReadFrame]
    split <;> simp
  case flushPool =>
    simp only [effectOf, cmdFlushPool]
    split <;> simp
  case readNotice =>
    simp only [effectOf, cmdReadNotice]
    split
    · exact ⟨rfl, .inr rfl⟩
    · unfold freeEntry
      split
      · split <;> exact ⟨rfl, .inr rfl⟩
      · exact ⟨rfl, .inr rfl⟩
  case readPeer b =>
    simp only [effectOf, cmdReadPeer]
    split <;> exact ⟨rfl, .inr rfl⟩
  all_goals exact ⟨rfl, .inr rfl⟩

/-- What LEAVE does, by whether the state takes it (R156). -/
theorem effectOf_leave (s : State) :
    (s.stc.station = .unjoined ∨ s.stc.station = .leaving) ∧ (effectOf .leave s).1 = s ∨
    s.stc.station ≠ .unjoined ∧ s.stc.station ≠ .leaving ∧ (effectOf .leave s).1 = leaveStation s := by
  simp only [effectOf, cmdLeave]
  cases s.stc.station <;> simp

theorem peersLaw_effectOf (c : HostCommand) (h : PeersLaw s) : PeersLaw (effectOf c s).1 := by
  by_cases leave : c = .leave
  · subst leave
    rcases effectOf_leave s with ⟨-, same⟩ | ⟨-, -, left⟩
    · rwa [same]
    · rw [left]
      exact peersLaw_leaveStation h
  · exact h.of_table (by rw [(effectOf_table leave s).1])

/-- Settles O50: each act and each command keeps the law of the records, the configuration staying in range. -/
theorem peerRecordsStaySound : Obligations.PeerRecordsStaySound := by
  refine KeptByEvents.step (Law := fun s => ConfigLaw s.stc.config ∧ PeersLaw s) ?_
  have config := configLaw_keptByEvents
  have run : ∀ s t, Run False s t → ConfigLaw s.stc.config ∧ PeersLaw s → ConfigLaw t.stc.config ∧ PeersLaw t :=
    fun s t h hs => ⟨h.config ▸ hs.1, h.acts.peers hs.1 hs.2⟩
  have ready : ∀ s, ConfigLaw s.stc.config ∧ PeersLaw s → Ready False s := fun s hs => ⟨hs.1, False.elim⟩
  refine ⟨fun s t same hs => ⟨config.port s t same hs.1, hs.2.of_table (by rw [same])⟩,
    fun c s formed hs => ⟨config.effect c s formed hs.1, peersLaw_effectOf c hs.2⟩,
    fun lrx s hs => ⟨config.soft lrx s hs.1, peersLaw_afterReset rfl⟩,
    fun lrx s hs => ⟨config.hard lrx s hs.1, peersLaw_afterReset rfl⟩,
    fun s hs => run _ _ bitTime_run hs,
    fun i f s hf hs => run _ _ (runningEvent_run hf (ready s hs)) hs,
    fun i k f s hf _ hs => run _ _ (idleEvent_run hf (ready s hs)) hs⟩

end Sys2Proof.Machine

/-! PROOFS. The Transmit Queue stays sound through every command and every event (R52, R54 to R78, R145, R147, R156). -/

namespace Sys2Proof.Machine

variable {s t : State}

/-! ### Host commands at the queue -/

theorem QueueLaw.of_unrelated (h : QueueLaw s) (same : Unrelated s t) : QueueLaw t :=
  (h.rest.requeued (same.requeued h.rest)).law fun leaving => by
    rw [same.current]
    exact h.flies (same.station ▸ leaving)

theorem LiveEntryLaw.of_same {e : Entry} (h : LiveEntryLaw s e) (config : t.stc.config = s.stc.config) (table : t.ptb = s.ptb) :
    LiveEntryLaw t e := by
  have paused : destPaused t e.dest = destPaused s e.dest := by
    unfold destPaused
    rw [table]
  exact ⟨config ▸ h.attempts, config ▸ h.collisions, config ▸ h.destination, paused ▸ h.held, paused ▸ h.waiting,
    h.sequence⟩

/-- An entry that is not in flight becomes FREE (R69, R74). -/
theorem QueueLaw.freed (hs : QueueLaw s) {h : Fin 16} (grounded : ∀ e, s.txq.entries[h] = some e → e.state.inFlight = false)
    (notices : List Notice) : QueueLaw (setEntry h none { s with notices := notices }) := by
  have rest := hs.rest
  have slots : ∀ k : Fin 16, (setEntry h none { s with notices := notices }).txq.entries[k] =
      if k = h then none else s.txq.entries[k] := fun k => setEntry_get h k none _
  have kept : ∀ {k : Fin 16} {e : Entry}, s.txq.entries[k] = some e → e.state.inFlight = true →
      (setEntry h none { s with notices := notices }).txq.entries[k] = some e := by
    intro k e he flying
    have other : k ≠ h := by
      rintro rfl
      rw [grounded e he] at flying
      cases flying
    rw [slots, if_neg other, he]
  refine QueueRest.law ⟨fun k e he live => ?_, fun k hk => ?_, fun w hw => ?_, fun o ho => ⟨fun hr => ?_, fun hr => ?_⟩⟩ hs.flies
  · rw [slots] at he
    by_cases same : k = h
    · rw [if_pos same] at he
      cases he
    · rw [if_neg same] at he
      have sound := rest.entries k e he live
      exact ⟨sound.live.of_same rfl rfl, sound.joined, sound.flying, sound.queued, sound.awaiting⟩
  · obtain ⟨e, he, flying⟩ := rest.current k hk
    exact ⟨e, kept he flying, flying⟩
  · obtain ⟨e, he, awaiting⟩ := rest.wait w hw
    exact ⟨e, kept he (by rw [awaiting]; rfl), awaiting⟩
  · obtain ⟨c, current, kind, joining, onLine⟩ := (rest.own o ho).chosen hr
    refine ⟨c, current, kind, joining, fun k hk => ?_⟩
    obtain ⟨e, he, state⟩ := onLine k hk
    exact ⟨e, kept he (by rw [state]; rfl), state⟩
  · exact (rest.own o ho).reply hr

/-- SUBMIT fills a FREE entry (R55, R56). -/
theorem QueueLaw.submitted (hs : QueueLaw s) (config : ConfigLaw s.stc.config) {h : Fin 16} (free : s.txq.entries[h] = none)
    {dest length : Byte} (accepts : acceptsSubmit s = true) (good : badSubmit s dest length = false) (payload : List Byte) :
    QueueLaw (takeEntry h dest payload s) := by
  have rest := hs.rest
  have slots : ∀ k : Fin 16, (takeEntry h dest payload s).txq.entries[k] =
      if k = h then some (submittedEntry s dest payload) else s.txq.entries[k] := fun k => setEntry_get h k _ s
  have kept : ∀ {k : Fin 16} {e : Entry}, s.txq.entries[k] = some e → (takeEntry h dest payload s).txq.entries[k] = some e := by
    intro k e he
    have other : k ≠ h := by
      rintro rfl
      rw [free] at he
      cases he
    rw [slots, if_neg other, he]
  have known : destinationKnown s.stc.config dest := by
    simp only [badSubmit, Bool.or_eq_false_iff, decide_eq_false_iff_not, Bool.and_eq_false_iff] at good
    obtain ⟨⟨notOwn, range⟩, -⟩ := good
    unfold destinationKnown
    rcases range with below | all
    · exact .inr ⟨by omega, notOwn⟩
    · exact .inl (by simpa [Config.toAll] using all)
  have joins : s.stc.station ≠ .unjoined ∧ s.stc.station ≠ .leaving := by
    constructor <;> intro station <;> simp [acceptsSubmit, station] at accepts
  have retry := config.retryLimit
  have collide := config.collisionLimit
  refine QueueRest.law ⟨fun k e he live => ?_, fun k hk => ?_, fun w hw => ?_, fun o ho => ⟨fun hr => ?_, fun hr => ?_⟩⟩
    hs.flies
  · rw [slots] at he
    by_cases same : k = h
    · rw [if_pos same] at he
      obtain rfl := Option.some.inj he
      have state : (submittedEntry s dest payload).state = if destPaused s dest = true then .held else .waiting := rfl
      have queued : (submittedEntry s dest payload).state.isQueued = true := by
        rw [state]
        split <;> rfl
      have grounded := isQueued_notInFlight queued
      refine ⟨⟨show 0 < s.stc.config.retryLimit by omega, show 0 < s.stc.config.collisionLimit by omega, known,
        fun held => ?_, fun waiting => ?_, fun flying => ?_⟩, joins.1, fun flying => ?_, fun _ => joins.2,
        fun awaiting => ?_⟩
      · by_contra off
        rw [state, if_neg (show ¬ destPaused s dest = true from off)] at held
        cases held
      · by_contra on
        rw [state, if_pos (show destPaused s dest = true from (Bool.not_eq_false _).mp on)] at waiting
        cases waiting
      · rw [grounded] at flying
        cases flying
      · rw [grounded] at flying
        cases flying
      · rw [awaiting] at queued
        cases queued
    · rw [if_neg same] at he
      have sound := rest.entries k e he live
      exact ⟨sound.live.of_same rfl rfl, sound.joined, sound.flying, sound.queued, sound.awaiting⟩
  · obtain ⟨e, he, flying⟩ := rest.current k hk
    exact ⟨e, kept he, flying⟩
  · obtain ⟨e, he, awaiting⟩ := rest.wait w hw
    exact ⟨e, kept he, awaiting⟩
  · obtain ⟨c, current, kind, joining, onLine⟩ := (rest.own o ho).chosen hr
    refine ⟨c, current, kind, joining, fun k hk => ?_⟩
    obtain ⟨e, he, state⟩ := onLine k hk
    exact ⟨e, kept he, state⟩
  · exact (rest.own o ho).reply hr

/-- A part with no entry but COMPLETE ones, the frame on the line as before. -/
theorem QueueRest.allComplete (hs : QueueRest s) (done : ∀ (k : Fin 16) (e : Entry), t.txq.entries[k] = some e →
    e.state.isComplete = true) (flown : ∀ (k : Fin 16) (e : Entry), s.txq.entries[k] = some e → e.state.inFlight = false)
    (current : t.txq.current = s.txq.current) (rpu : t.rpu = s.rpu) (own : t.lif.own = s.lif.own) : QueueRest t := by
  refine ⟨fun k e he live => ?_, fun k hk => ?_, fun w hw => ?_, fun o ho => ⟨fun hr => ?_, fun hr => ?_⟩⟩
  · rw [done k e he] at live
    cases live
  · rw [current] at hk
    obtain ⟨e, he, flying⟩ := hs.current k hk
    rw [flown k e he] at flying
    cases flying
  · rw [rpu] at hw
    obtain ⟨e, he, awaiting⟩ := hs.wait w hw
    have grounded := flown _ e he
    rw [awaiting] at grounded
    cases grounded
  · rw [own] at ho
    obtain ⟨c, current', kind, joining, onLine⟩ := (hs.own o ho).chosen hr
    refine ⟨c, current.trans current', kind, joining, fun k hk => ?_⟩
    obtain ⟨e, he, state⟩ := onLine k hk
    have grounded := flown _ e he
    rw [state] at grounded
    cases grounded
  · rw [own] at ho
    rw [rpu]
    exact (hs.own o ho).reply hr

/-- In UNJOINED every entry is COMPLETE, whatever becomes of the record or the station (R145, R147). -/
theorem QueueLaw.fromUnjoined (hs : QueueLaw s) (unjoined : s.stc.station = .unjoined)
    (entries : t.txq.entries = s.txq.entries) (current : t.txq.current = s.txq.current) (rpu : t.rpu = s.rpu)
    (own : t.lif.own = s.lif.own) (station : t.stc.station ≠ .leaving) : QueueLaw t := by
  have done := hs.unjoined unjoined
  refine (hs.rest.allComplete (fun k e he => done k e (entries ▸ he)) (fun k e he => ?_) current rpu own).law
    fun leaving => absurd leaving station
  have complete := done k e he
  by_contra flying
  rw [inFlight_incomplete (by simpa using flying)] at complete
  cases complete

/-- LEAVE: every entry that waits is withdrawn, and the station goes to LEAVING, or to UNJOINED (R75, R156). -/
theorem QueueLaw.leaves (hs : QueueLaw s) : QueueLaw (leaveStation s) := by
  have rest := hs.rest
  have mapped := (withdrawAll_eq s).2
  have withdraws : ∀ e : Entry, (withdrawn e).state.isQueued = false ∧ (e.state.inFlight = true → withdrawn e = e) := by
    intro e
    unfold withdrawn
    by_cases queued : e.state.isQueued = true
    · rw [if_pos queued]
      refine ⟨rfl, fun flying => ?_⟩
      rw [isQueued_notInFlight queued] at flying
      cases flying
    · rw [if_neg queued]
      exact ⟨by simpa using queued, fun _ => rfl⟩
  by_cases flies : anyInFlight s.txq = true
  · have left := leaveStation_inFlight flies
    have slots : ∀ k : Fin 16, (leaveStation s).txq.entries[k] = (s.txq.entries[k]).map withdrawn := fun k => by
      rw [left]
      exact mapped k
    have kept : ∀ {k : Fin 16} {e : Entry}, s.txq.entries[k] = some e → e.state.inFlight = true →
        (leaveStation s).txq.entries[k] = some e := fun {k e} he flying => by
      rw [slots, he, Option.map_some, (withdraws e).2 flying]
    have stays : (leaveStation s).stc.station = .leaving ∧ (leaveStation s).stc.config = s.stc.config ∧
        (leaveStation s).ptb = s.ptb ∧ (leaveStation s).rpu = s.rpu ∧ (leaveStation s).lif = s.lif ∧
        (leaveStation s).txq.current = s.txq.current := by
      rw [left]
      exact ⟨rfl, rfl, rfl, rfl, rfl, rfl⟩
    obtain ⟨station, config, table, rpu, lif, current⟩ := stays
    generalize leaveStation s = u at *
    refine QueueRest.law ⟨fun k e' he' live => ?_, fun k hk => ?_, fun w hw => ?_, fun o ho => ⟨fun hr => ?_, fun hr => ?_⟩⟩
      fun _ => ?_
    · rw [slots, Option.map_eq_some_iff] at he'
      obtain ⟨e, he, rfl⟩ := he'
      obtain ⟨idle, same⟩ := withdraws e
      have flying : e.state.inFlight = true := by
        rw [← withdrawn_inFlight]
        rcases inFlight_or_queued live with flying | queued
        · exact flying
        · rw [idle] at queued
          cases queued
      rw [same flying]
      have sound := rest.entries k e he (inFlight_incomplete flying)
      refine ⟨sound.live.of_same config table, by rw [station]; simp, fun _ => ⟨current ▸ (sound.flying flying).1, ?_, ?_⟩,
        fun queued => ?_, rpu ▸ sound.awaiting⟩
      · rw [station]
        simp
      · rw [station]
        simp
      · rw [isQueued_notInFlight queued] at flying
        cases flying
    · rw [current] at hk
      obtain ⟨e, he, flying⟩ := rest.current k hk
      exact ⟨e, kept he flying, flying⟩
    · rw [rpu] at hw
      obtain ⟨e, he, awaiting⟩ := rest.wait w hw
      exact ⟨e, kept he (by rw [awaiting]; rfl), awaiting⟩
    · rw [lif] at ho
      obtain ⟨c, current', kind, joining, onLine⟩ := (rest.own o ho).chosen hr
      refine ⟨c, current.trans current', kind, joining, fun k hk => ?_⟩
      obtain ⟨e, he, state⟩ := onLine k hk
      exact ⟨e, kept he (by rw [state]; rfl), state⟩
    · rw [lif] at ho
      rw [rpu]
      exact (rest.own o ho).reply hr
    · obtain ⟨k, e, he, state⟩ := anyInFlight_iff.1 flies
      have flying := (inFlight_iff _).2 state
      exact ⟨k, current.trans ((rest.entries k e he (inFlight_incomplete flying)).flying flying).1⟩
  · rw [Bool.not_eq_true] at flies
    have flown : ∀ (k : Fin 16) (e : Entry), s.txq.entries[k] = some e → e.state.inFlight = false := fun k e he => by
      by_contra flying
      rw [anyInFlight_iff.2 ⟨k, e, he, (inFlight_iff _).1 (by simpa using flying)⟩] at flies
      cases flies
    have left := leaveStation_completes flies
    rw [offerNotice_eq] at left
    rw [left]
    refine QueueRest.law (rest.allComplete (fun k e' he' => ?_) flown rfl rfl rfl) fun leaving => by cases leaving
    rw [show _ = _ from mapped k, Option.map_eq_some_iff] at he'
    obtain ⟨e, he, rfl⟩ := he'
    by_contra live
    rcases inFlight_or_queued (by simpa using live) with flying | queued
    · rw [withdrawn_inFlight, flown k e he] at flying
      cases flying
    · rw [(withdraws e).1] at queued
      cases queued

theorem fieldWritten_own (f : FieldId) (c : ConfigRecord) (s : State) :
    (fieldWritten f c s).txq = s.txq ∧ (fieldWritten f c s).rpu = s.rpu ∧ (fieldWritten f c s).lif.own = s.lif.own ∧
    (fieldWritten f c s).stc.station = s.stc.station := by
  cases f
  case divisor =>
    refine ⟨rfl, rfl, ?_, rfl⟩
    simp only [fieldWritten, LineInterface.withNewDivisor]
    split <;> rfl
  all_goals exact ⟨rfl, rfl, rfl, rfl⟩

/-- READ NOTICE frees the COMPLETE entry that its notice names (R74, R173). -/
theorem QueueLaw.noticeRead (hs : QueueLaw s) (named : NoticeLaw s) {n : Notice} {rest : List Notice}
    (head : s.notices = n :: rest) : QueueLaw (freeEntry n { s with notices := rest }) := by
  have same : QueueLaw { s with notices := rest } := hs.of_unrelated (.of_same rfl rfl rfl rfl rfl)
  unfold freeEntry
  by_cases completion : n.kind.isCompletion = true
  · rw [if_pos completion]
    obtain ⟨h, e, o, he, state, rfl⟩ := named.named n (by rw [head]; simp) completion
    have subject : (completionNotice h o).subject = byteOf h.val := by cases o <;> rfl
    rw [subject, handleOf_byteOf]
    refine hs.freed (fun e' he' => ?_) rest
    rw [he] at he'
    cases he'
    rw [state]
    rfl
  · rw [if_neg completion]
    exact same

theorem queueLaw_effectOf {c : HostCommand} (formed : c.wellFormed = true) (config : ConfigLaw s.stc.config)
    (named : NoticeLaw s) (hs : QueueLaw s) : QueueLaw (effectOf c s).1 := by
  cases c
  case leave =>
    rcases effectOf_leave s with ⟨-, same⟩ | ⟨-, -, left⟩
    · rwa [same]
    · rw [left]
      exact hs.leaves
  case setField id v =>
    simp only [effectOf, cmdSetField]
    split
    · rename_i unjoined
      split
      · exact hs
      · split
        · exact hs
        · obtain ⟨queue, rpu, own, station⟩ := fieldWritten_own _ _ s
          exact hs.fromUnjoined unjoined (by rw [queue]) (by rw [queue]) rpu own (by rw [station, unjoined]; simp)
    · exact hs
  case join =>
    simp only [effectOf, cmdJoin]
    split
    · rename_i unjoined
      split
      · exact hs
      · refine hs.fromUnjoined unjoined ?_ ?_ ?_ ?_ ?_ <;> simp [joinStation, setLastSender, setStation]
    · exact hs
  case submit dest length payload =>
    simp only [effectOf, cmdSubmit]
    split
    · rename_i accepts
      split
      · exact hs
      · rename_i good
        split
        · exact hs
        · rename_i h free
          exact hs.submitted config (lowestFree_some free).1 accepts (by simpa using good) payload
    · exact hs
  case cancel b =>
    simp only [effectOf, cmdCancel]
    split
    · exact hs
    · split
      · exact hs
      · rename_i h _ e he
        split
        · rename_i queued
          refine hs.freed (fun e' he' => ?_) s.notices
          rw [he] at he'
          cases he'
          exact isQueued_notInFlight queued
        · split
          · exact hs
          · exact hs
  case readNotice =>
    simp only [effectOf, cmdReadNotice]
    split
    · exact hs
    · rename_i n rest head
      exact hs.noticeRead named head
  case readFrame =>
    simp only [effectOf, cmdReadFrame]
    split
    · exact hs.of_unrelated (.of_same (by simp) (by simp) (by simp) (by simp) (by simp))
    · exact hs.of_unrelated (.of_same (by simp) (by simp) (by simp) (by simp) (by simp))
    · exact hs
  case flushPool =>
    simp only [effectOf, cmdFlushPool]
    split
    · exact hs
    · exact hs.of_unrelated (.of_same (by simp) (by simp) (by simp) (by simp) (by simp))
  case getField id =>
    simp only [effectOf, cmdGetField]
    split <;> exact hs
  case queryEntry b =>
    simp only [effectOf, cmdQueryEntry]
    split
    · exact hs
    · split <;> exact hs
  case readPeer b =>
    simp only [effectOf, cmdReadPeer]
    split <;> exact hs
  all_goals exact hs.of_unrelated (.of_same rfl rfl rfl rfl rfl)

/-! ### Every step -/

theorem queueLaw_keptByEvents : KeptByEvents fun s => ConfigLaw s.stc.config ∧ NoticeLaw s ∧ QueueLaw s := by
  have config := configLaw_keptByEvents
  have notice := noticeLaw_keptByEvents
  have ready : ∀ s, ConfigLaw s.stc.config ∧ NoticeLaw s ∧ QueueLaw s → Ready True s := fun s hs => ⟨hs.1, fun _ => hs.2.2.rest⟩
  have run : ∀ s t, Run True s t → ConfigLaw s.stc.config ∧ NoticeLaw s ∧ QueueLaw s → QueueLaw t :=
    fun s t h hs => ((h.ready (ready s hs)).queue trivial).law (h.flies trivial hs.2.2.flies)
  exact ⟨fun s t same hs => ⟨config.port s t same hs.1, notice.port s t same hs.2.1,
      hs.2.2.of_unrelated (.of_same (by rw [same]) (by rw [same]) (by rw [same]) (by rw [same]) (by rw [same]))⟩,
    fun c s formed hs => ⟨config.effect c s formed hs.1, notice.effect c s formed hs.2.1,
      queueLaw_effectOf formed hs.1 hs.2.1 hs.2.2⟩,
    fun lrx s hs => ⟨config.soft lrx s hs.1, notice.soft lrx s hs.2.1, queueLaw_afterReset rfl rfl rfl rfl⟩,
    fun lrx s hs => ⟨config.hard lrx s hs.1, notice.hard lrx s hs.2.1, queueLaw_afterReset rfl rfl rfl rfl⟩,
    fun s hs => ⟨config.bitTime s hs.1, notice.bitTime s hs.2.1, run _ _ bitTime_run hs⟩,
    fun i f s hf hs => ⟨config.event i f s hf hs.1, notice.event i f s hf hs.2.1,
      run _ _ (runningEvent_run hf (ready s hs)) hs⟩,
    fun i k f s hf reaches hs => ⟨config.idle i k f s hf reaches hs.1, notice.idle i k f s hf reaches hs.2.1,
      run _ _ (idleEvent_run hf (ready s hs)) hs⟩⟩

/-- Settles O51: the acts of each event keep the queue's law between them, and its end has LEAVING's attempt in flight. -/
theorem queueStaysSound : Obligations.QueueStaysSound := queueLaw_keptByEvents.step

end Sys2Proof.Machine

/-! PROOFS. The records that are not in use stay cleared through every act and command, and in UNJOINED the whole table
(R97, R112, R113). -/

namespace Sys2Proof.Machine

variable {s t : State}

/-! ### What keeps the table cleared -/

theorem TableLaw.of_same (h : TableLaw s) (table : t.ptb = s.ptb) (config : t.stc.config = s.stc.config)
    (station : t.stc.station = .unjoined → s.stc.station = .unjoined) : TableLaw t := by
  refine ⟨fun unjoined => table.trans (h.unjoined (station unjoined)), fun p unused => ?_⟩
  rw [table]
  refine h.unused p ?_
  rw [← unused]
  simp only [recordInUse, config]

theorem setRecord_cleared (p : Fin 32) : setRecord p Peer.cleared PeerTable.cleared = PeerTable.cleared := by
  have same := setRecord_same p PeerTable.cleared
  rwa [PeerTable.cleared_record] at same

/-- A record is written where the table takes claims, or a cleared record stays cleared. -/
theorem TableLaw.setRecord (h : TableLaw s) {p : Fin 32} {r : Peer} (table : t.ptb = setRecord p r s.ptb) (stc : t.stc = s.stc)
    (keeps : claimsTaken s p = true ∨ (s.ptb.records[p] = Peer.cleared → r = Peer.cleared)) : TableLaw t := by
  refine ⟨fun unjoined => ?_, fun q unused => ?_⟩
  · rw [stc] at unjoined
    have cleared := h.unjoined unjoined
    rcases keeps with taken | keeps
    · simp [claimsTaken, joined, unjoined] at taken
    · rw [table, keeps (by rw [cleared, PeerTable.cleared_record]), cleared, setRecord_cleared]
  · have unused' : recordInUse s q = false := by
      rw [← unused]
      simp only [recordInUse, stc]
    rw [table, setRecord_get]
    by_cases same : q = p
    · subst same
      rw [if_pos rfl]
      rcases keeps with taken | keeps
      · simp [claimsTaken, unused'] at taken
      · exact keeps (h.unused q unused')
    · rw [if_neg same]
      exact h.unused q unused'

theorem recordAfterTick_cleared : recordAfterTick Peer.cleared = Peer.cleared := rfl

theorem PeerTable.ext_records {a b : PeerTable} (records : ∀ p : Fin 32, a.records[p] = b.records[p])
    (timer : a.beaconTimer = b.beaconTimer) : a = b := by
  cases a
  cases b
  cases timer
  congr 1
  exact Vector.ext fun i hi => records ⟨i, hi⟩

theorem TableLaw.tick (h : TableLaw s) : TableLaw (tickRecords s) := by
  obtain ⟨state, records, -⟩ := tickRecords_counts s
  have stc : (tickRecords s).stc = s.stc := by simp
  have timer : (tickRecords s).ptb.beaconTimer = s.ptb.beaconTimer := by rw [state]
  generalize tickRecords s = t at *
  refine ⟨fun unjoined => ?_, fun p unused => ?_⟩
  · have cleared := h.unjoined (stc ▸ unjoined)
    refine PeerTable.ext_records (fun p => ?_) (by rw [timer, cleared])
    rw [records p, cleared, PeerTable.cleared_record, recordAfterTick_cleared]
  · have unused' : recordInUse s p = false := by
      rw [← unused]
      simp only [recordInUse, stc]
    rw [records p, h.unused p unused', recordAfterTick_cleared]

theorem TableLaw.pausePeer (h : TableLaw s) {p : Fin 32} (taken : claimsTaken s p = true) (cause : PauseCause) :
    TableLaw (pausePeer p cause s) := by
  obtain ⟨state, -⟩ := pausePeer_eq p cause s
  exact h.setRecord (congrArg State.ptb state) (by simp) (.inl taken)

/-- An entry the queue may choose goes to all stations or to a record in use (R55, R97). -/
theorem QueueRest.chosenTaken (hs : QueueRest s) {c : CurrentFrame} (hc : chooseFrame s = some c) {h : Fin 16} {e : Entry}
    (entry : c = .entry h) (he : s.txq.entries[h] = some e) {p : Fin 32} (dest : recordOf e.dest = some p) :
    claimsTaken s p = true := by
  subst entry
  obtain ⟨active, -, oldest⟩ := chooseFrame_entry hc
  have waiting := isCandidate_waiting he (oldestCandidate_isCandidate oldest)
  have known := (hs.entries h e he (by rw [waiting]; rfl)).live.destination
  obtain rfl' := recordOf_eq_some.1 dest
  rw [rfl'] at known
  have value : (byteOf p.val).toNat = p.val := byteOf_toNat_of_lt (by omega)
  rcases known with all | ⟨below, other⟩
  · have values := congrArg BitVec.toNat all
    rw [value] at values
    have bound := p.isLt
    simp at values
    omega
  · rw [value] at below other
    simp [claimsTaken, joined, recordInUse, active, below, other]

theorem Act.table (h : Act True s t) (ready : Ready True s) (hs : TableLaw s) : TableLaw t := by
  cases h with
  | unrelated _ same => exact hs.of_same same.table same.config fun unjoined => same.station ▸ unjoined
  | presence p taken =>
    obtain ⟨state, -⟩ := refreshPresence_eq p s
    exact hs.setRecord (congrArg State.ptb state) (by simp) (.inl taken)
  | pause p cause taken present => exact hs.pausePeer taken cause
  | resume p cause =>
    obtain ⟨state, -⟩ := resumePeer_eq p cause s
    refine hs.setRecord (congrArg State.ptb state) (by simp) (.inr fun cleared => ?_)
    rw [cleared]
    rfl
  | lose p =>
    obtain ⟨state, -⟩ := losePeer_lost p s
    refine hs.setRecord (congrArg State.ptb state) (by simp) (.inr fun cleared => ?_)
    rw [cleared]
    rfl
  | received p q taken => exact hs.setRecord (p := p) rfl rfl (.inl taken)
  | tick => exact hs.tick
  | beaconTimer timer h =>
    refine ⟨fun unjoined => ?_, hs.unused⟩
    have cleared := hs.unjoined unjoined
    have none := h unjoined (by rw [cleared]; rfl)
    rw [none]
    exact PeerTable.ext_records (fun p => congrArg (fun x => x.records[p]) cleared) rfl
  | pending x h => exact hs.of_same rfl rfl fun u => u
  | candidate w hw => exact hs.of_same rfl rfl fun u => u
  | endWait w o hw full =>
    have stc : (Machine.endWait w o s).stc = s.stc := by simp
    have same : (Machine.endWait w o s).ptb = s.ptb → TableLaw (Machine.endWait w o s) := fun table =>
      hs.of_same table (by rw [stc]) fun u => stc ▸ u
    cases o with
    | taken => exact same (by simp [Machine.endWait])
    | duplicate => exact same (by simp [Machine.endWait])
    | noReply => exact same (by simp [Machine.endWait])
    | full =>
      have paused : TableLaw (peerFull w.dest s) := by
        unfold peerFull
        cases recordOf w.dest with
        | none => exact hs
        | some p =>
          dsimp only
          split
          · rename_i taken
            exact hs.pausePeer taken _
          · exact hs
      have kept : (peerFull w.dest s).stc = s.stc := by simp
      refine paused.of_same ?_ (by rw [stc, kept]) fun u => by rw [kept]; exact stc ▸ u
      simp only [Machine.endWait]
      rw [peerFull_withReply]
      simp
  | outcome o free =>
    have stc : (currentOutcome o s).stc = s.stc := by simp
    exact hs.of_same (by simp) (by rw [stc]) fun u => stc ▸ u
  | station st round h =>
    refine hs.of_same rfl rfl fun unjoined => ?_
    rcases h with ⟨-, rfl⟩ | ⟨-, rfl⟩ | ⟨-, rfl⟩ <;> cases unjoined
  | left leaving ended =>
    refine tableLaw_afterReset ?_
    unfold leaveCompletion
    rw [offerNotice_eq]
    rfl
  | request c hc =>
    have stc : (requestFrame c s).stc = s.stc := by
      unfold requestFrame
      split <;> simp [setLine]
    rcases requestFrame_table c s with same | ⟨h, e, p, entry, he, dest, table⟩
    · exact hs.of_same same (by rw [stc]) fun u => stc ▸ u
    · exact hs.setRecord table stc (.inl ((ready.queue trivial).chosenTaken hc entry he dest))
  | reply r hr waits =>
    have stc : (sendReply r s).stc = s.stc := by simp
    exact hs.of_same (by simp) (by rw [stc]) fun u => stc ▸ u

/-! ### Every step -/

theorem Acts.table (h : Acts True s t) (ready : Ready True s) (hs : TableLaw s) : TableLaw t := by
  induction h with
  | refl => exact hs
  | tail first last ih => exact last.table (Acts.ready first ready) ih

theorem tableLaw_effectOf (c : HostCommand) (hs : TableLaw s) : TableLaw (effectOf c s).1 := by
  by_cases leave : c = .leave
  · subst leave
    rcases effectOf_leave s with ⟨-, same⟩ | ⟨joins, -, left⟩
    · rwa [same]
    · rw [left]
      by_cases flies : anyInFlight s.txq = true
      · rw [leaveStation_inFlight flies]
        exact hs.of_same rfl rfl fun unjoined => by cases unjoined
      · rw [leaveStation_completes (by simpa using flies), offerNotice_eq]
        exact tableLaw_afterReset rfl
  · obtain ⟨table, unjoined | stc⟩ := effectOf_table leave s
    · exact tableLaw_afterReset (table.trans (hs.unjoined unjoined))
    · exact hs.of_same table (by rw [stc]) fun u => stc ▸ u

/-- Settles O52: each act writes a record only where the table takes claims, an entry's destination among them. -/
theorem unusedRecordsStayCleared : Obligations.UnusedRecordsStayCleared := by
  refine KeptByEvents.step (Law := fun s => ConfigLaw s.stc.config ∧ NoticeLaw s ∧ QueueLaw s ∧ TableLaw s) ?_
  have queue := queueLaw_keptByEvents
  have other : ∀ {s : State}, ConfigLaw s.stc.config ∧ NoticeLaw s ∧ QueueLaw s ∧ TableLaw s →
      ConfigLaw s.stc.config ∧ NoticeLaw s ∧ QueueLaw s := fun hs => ⟨hs.1, hs.2.1, hs.2.2.1⟩
  have joint : ∀ {t : State}, ConfigLaw t.stc.config ∧ NoticeLaw t ∧ QueueLaw t → TableLaw t →
      ConfigLaw t.stc.config ∧ NoticeLaw t ∧ QueueLaw t ∧ TableLaw t := fun h table => ⟨h.1, h.2.1, h.2.2, table⟩
  have ready : ∀ {s : State}, ConfigLaw s.stc.config ∧ NoticeLaw s ∧ QueueLaw s ∧ TableLaw s → Ready True s :=
    fun hs => ⟨hs.1, fun _ => hs.2.2.1.rest⟩
  exact ⟨fun s t same hs => joint (queue.port s t same (other hs))
      (hs.2.2.2.of_same (by rw [same]) (by rw [same]) fun unjoined => by rw [same] at unjoined; exact unjoined),
    fun c s formed hs => joint (queue.effect c s formed (other hs)) (tableLaw_effectOf c hs.2.2.2),
    fun lrx s hs => joint (queue.soft lrx s (other hs)) (tableLaw_afterReset rfl),
    fun lrx s hs => joint (queue.hard lrx s (other hs)) (tableLaw_afterReset rfl),
    fun s hs => joint (queue.bitTime s (other hs)) (bitTime_run.acts.table (ready hs) hs.2.2.2),
    fun i f s hf hs => joint (queue.event i f s hf (other hs))
      ((runningEvent_run hf (ready hs)).acts.table (ready hs) hs.2.2.2),
    fun i k f s hf reaches hs => joint (queue.idle i k f s hf reaches (other hs))
      ((idleEvent_run hf (ready hs)).acts.table (ready hs) hs.2.2.2)⟩

end Sys2Proof.Machine

/-! PROOFS. What a good frame does besides ending a reply wait (R15, R31, R79, R89): its claims take no notice of the Reply Unit,
and its store none of the entry whose attempt has ended, whose notice stands before the monitor's (R171). -/

namespace Sys2Proof.Machine

variable {s t x y : State} {f : GoodFrame} {q : TransmitQueue} {base base' : List Notice} {F G : State → State}

/-! ### Claims beside the Reply Unit -/

/-- The state `s` with this Reply Unit. -/
def withReply (r : ReplyUnit) (s : State) : State := { s with rpu := r }

/-- `F` neither reads nor changes the Reply Unit, and leaves an entry that awaits its reply as it is. -/
structure Besides (F : State → State) : Prop where
  commutes : ∀ r s, F (withReply r s) = withReply r (F s)
  awaiting : ∀ s (h : Fin 16) (e : Entry), s.txq.entries[h] = some e → e.state = .awaitingReply →
    (F s).txq.entries[h] = some e
  notices : ∀ s, ∃ ns, (F s).notices = s.notices ++ ns ∧ ∀ n ∈ ns, ¬ n.isMonitors
  config : ∀ s, (F s).stc.config = s.stc.config
  leaving : ∀ s, (F s).stc.station = .leaving ↔ s.stc.station = .leaving

theorem Besides.rpu (h : Besides F) (s : State) : (F s).rpu = s.rpu := by
  have self : F s = withReply s.rpu (F s) := h.commutes s.rpu s
  rw [self]
  rfl

theorem Besides.id : Besides fun s => s :=
  ⟨fun _ _ => rfl, fun _ _ _ he _ => he, fun s => ⟨[], by simp, by simp⟩, fun _ => rfl, fun _ => Iff.rfl⟩

theorem Besides.comp (hF : Besides F) (hG : Besides G) : Besides fun s => F (G s) := by
  refine ⟨fun r s => by rw [hG.commutes, hF.commutes],
    fun s h e he awaiting => hF.awaiting _ h e (hG.awaiting s h e he awaiting) awaiting, fun s => ?_, fun s => (hF.config _).trans (hG.config s), fun s => (hF.leaving _).trans (hG.leaving s)⟩
  obtain ⟨ns, notices, others⟩ := hG.notices s
  obtain ⟨ns', notices', others'⟩ := hF.notices (G s)
  refine ⟨ns ++ ns', by rw [notices', notices, List.append_assoc], fun n hn => ?_⟩
  rcases List.mem_append.1 hn with h | h
  · exact others n h
  · exact others' n h

theorem Besides.ite {c : State → Prop} [DecidablePred c] (hc : ∀ r s, c (withReply r s) ↔ c s) (hF : Besides F)
    (hG : Besides G) : Besides fun s => if c s then F s else G s := by
  have either : ∀ {P : State → Prop} (s : State), P (F s) → P (G s) → P (if c s then F s else G s) := by
    intro P s hF hG
    split
    · exact hF
    · exact hG
  refine ⟨fun r s => ?_, fun s h e he awaiting => either (P := fun t => t.txq.entries[h] = some e) s
      (hF.awaiting s h e he awaiting) (hG.awaiting s h e he awaiting),
    fun s => either (P := fun t => ∃ ns, t.notices = s.notices ++ ns ∧ ∀ n ∈ ns, ¬ n.isMonitors) s (hF.notices s)
      (hG.notices s),
    fun s => either (P := fun t => t.stc.config = s.stc.config) s (hF.config s) (hG.config s),
    fun s => either (P := fun t => t.stc.station = .leaving ↔ s.stc.station = .leaving) s (hF.leaving s) (hG.leaving s)⟩
  by_cases h : c s
  · rw [if_pos h, if_pos ((hc r s).2 h), hF.commutes]
  · rw [if_neg h, if_neg fun x => h ((hc r s).1 x), hG.commutes]

/-- A change of other blocks, with no notice. -/
theorem Besides.of_fields (commutes : ∀ r s, F (withReply r s) = withReply r (F s))
    (entries : ∀ s, (F s).txq.entries = s.txq.entries)
    (notices : ∀ s, (F s).notices = s.notices) (config : ∀ s, (F s).stc.config = s.stc.config)
    (leaving : ∀ s, (F s).stc.station = .leaving ↔ s.stc.station = .leaving) : Besides F :=
  ⟨commutes, fun s h e he _ => by rw [entries, he],
    fun s => ⟨[], by rw [notices, List.append_nil], by simp⟩, config, leaving⟩

theorem Besides.offer {n : Notice} (other : ¬ n.isMonitors) : Besides (offerNotice n) := by
  refine ⟨offerNotice_withReply n, fun s h e he _ => by simpa using he, fun s => ?_, fun s => by simp, fun s => by simp⟩
  unfold offerNotice
  split
  · exact ⟨[n], rfl, by simpa using other⟩
  · exact ⟨[], by simp, by simp⟩

theorem setLastSender_besides (l : Option Nat) : Besides (setLastSender l) :=
  .of_fields (fun _ _ => rfl) (fun _ => rfl) (fun _ => rfl) (fun _ => rfl) fun _ => Iff.rfl

theorem ladderUnknown_besides : Besides ladderUnknown :=
  .ite (fun _ _ => Iff.rfl) (setLastSender_besides none) .id

theorem enterAnnouncing_notLeaving (s : State) : (enterAnnouncing s).stc.station ≠ .leaving := by
  simp [enterAnnouncing, setBeacon, setStation]

theorem learned_besides : Besides learned := by
  refine .of_fields (fun r s => ?_) (fun s => ?_) (fun s => by simp) (fun s => ?_) fun s => ?_
  · by_cases h : s.stc.station = .listening
    · exact (if_pos h).trans (by rw [learned, if_pos h]; rfl)
    · exact (if_neg h).trans (by rw [learned, if_neg h])
  · unfold learned
    split <;> rfl
  · unfold learned
    split <;> rfl
  · unfold learned
    split
    · rename_i h
      exact iff_of_false (enterAnnouncing_notLeaving s) (by rw [h]; simp)
    · rfl

theorem ladderHeard_besides (n : Nat) : Besides (ladderHeard n) :=
  .ite (fun _ _ => Iff.rfl) (learned_besides.comp (setLastSender_besides _)) .id

theorem ladderFrame_besides (f : GoodFrame) : Besides (ladderFrame f) :=
  .ite (fun _ _ => Iff.rfl) (ladderHeard_besides _) .id

theorem handMismatch_besides (f : GoodFrame) : Besides (handMismatch f) :=
  .ite (fun _ _ => Iff.rfl) (ladderUnknown_besides.comp (.offer (by simp [Notice.isMonitors, sourceNotice]))) .id

/-! ### The Peer Table's claims -/

theorem setPeer_besides (p : Fin 32) (r : State → Peer) (hr : ∀ u s, r (withReply u s) = r s) :
    Besides fun s => setPeer p (r s) s := by
  refine .of_fields (fun u s => ?_) (fun _ => rfl) (fun _ => rfl) (fun _ => rfl) fun _ => Iff.rfl
  rw [hr]
  rfl

theorem pauseEntries_besides (p : Fin 32) (paused : Bool) : Besides (pauseEntries p paused) := by
  refine ⟨fun _ _ => rfl, fun s h e he awaiting => ?_, fun s => ⟨[], by simp, by simp⟩, fun _ => rfl, fun _ => Iff.rfl⟩
  simp only [pauseEntries, mapCells_get_fin, he, Option.map_some, entryAfterPause, awaiting]
  split <;> rfl

theorem refreshPresence_besides (p : Fin 32) : Besides (refreshPresence p) := by
  have record := setPeer_besides p
    (fun s => { s.ptb.records[p] with present := true, silence := some s.stc.config.presenceTimeout }) fun _ _ => rfl
  exact .ite (c := fun s => s.ptb.records[p].present = true) (fun _ _ => Iff.rfl) record
    (Besides.comp (.offer (by simp [Notice.isMonitors, plainNotice])) record)

theorem pausePeer_besides (p : Fin 32) (cause : PauseCause) : Besides (pausePeer p cause) := by
  have record := setPeer_besides p
    (fun s => { s.ptb.records[p] with paused := true, pauseTimer := some s.stc.config.pauseHold }) fun _ _ => rfl
  exact .ite (c := fun s => s.ptb.records[p].paused = true) (fun _ _ => Iff.rfl) record
    (Besides.comp (.offer (by cases cause <;> simp [Notice.isMonitors, pausedNotice]))
      ((pauseEntries_besides p true).comp record))

theorem resumePeer_besides (p : Fin 32) (cause : ResumeCause) : Besides (resumePeer p cause) := by
  have record := setPeer_besides p (fun s => { s.ptb.records[p] with paused := false, pauseTimer := none }) fun _ _ => rfl
  exact .ite (c := fun s => s.ptb.records[p].paused = true) (fun _ _ => Iff.rfl)
    (Besides.comp (.offer (by cases cause <;> simp [Notice.isMonitors, resumedNotice]))
      ((pauseEntries_besides p false).comp record)) .id

theorem kindClaims_besides (p : Fin 32) (f : GoodFrame) : Besides (kindClaims p f) := by
  unfold kindClaims
  cases f.kind with
  | pause => exact pausePeer_besides p _
  | resume => exact resumePeer_besides p _
  | beacon =>
    exact .ite (fun _ _ => Iff.rfl) ((resumePeer_besides p .hello).comp
      (setPeer_besides p (fun s => { s.ptb.records[p] with lastReceived := none }) fun _ _ => rfl)) .id
  | data => exact .id
  | ack => exact .id

theorem peerFrame_besides (f : GoodFrame) : Besides (peerFrame f) := by
  unfold peerFrame
  cases recordOf f.source with
  | none => exact .id
  | some p => exact .ite (fun _ _ => Iff.rfl) ((kindClaims_besides p f).comp (refreshPresence_besides p)) .id

/-- The claims of a good frame ahead of the Reply Unit (R15, R31, R99). -/
def frameClaims (f : GoodFrame) (s : State) : State := peerFrame f (ladderFrame f (handMismatch f s))

theorem frameClaims_besides (f : GoodFrame) : Besides (frameClaims f) :=
  (peerFrame_besides f).comp ((ladderFrame_besides f).comp (handMismatch_besides f))

/-- The claims of a good frame from the own number (R15, R31). -/
def clashClaims (f : GoodFrame) (s : State) : State :=
  if f.kind = .ack then offerNotice (sourceNotice .numberClash f) s
  else ladderHeard s.stc.config.ownNumber (offerNotice (sourceNotice .numberClash f) s)

theorem clashClaims_besides (f : GoodFrame) : Besides (clashClaims f) := by
  have offer : Besides (offerNotice (sourceNotice .numberClash f)) := .offer (by simp [Notice.isMonitors, sourceNotice])
  unfold clashClaims
  by_cases ack : f.kind = .ack
  · simp only [ack, if_true]
    exact offer
  · simp only [ack, if_false]
    refine ⟨fun r s => ?_, fun s => ?_, fun s => ?_, fun s => ?_, fun s => ?_⟩
    · exact ((ladderHeard_besides _).comp offer).commutes r s
    · exact ((ladderHeard_besides _).comp offer).awaiting s
    · exact ((ladderHeard_besides _).comp offer).notices s
    · exact ((ladderHeard_besides _).comp offer).config s
    · exact ((ladderHeard_besides _).comp offer).leaving s

/-! ### The store beside the entry that has ended its attempt (R65, R79, R171) -/

/-- `y` is `x` with the queue `q`, one no-reply more, and `base'` in place of the notices `base`, those after it the monitor's. -/
structure Beside (q : TransmitQueue) (base base' : List Notice) (x y : State) : Prop where
  state : y = { x with
    txq := q, counters := { x.counters with noReplies := oneMore x.counters.noReplies }, notices := y.notices }
  notices : ∃ after, x.notices = base ++ after ∧ y.notices = base' ++ after ∧ ∀ n ∈ after, n.isMonitors
  counts : informationalCount y.notices = informationalCount x.notices

theorem informationalCount_append (ns ns' : List Notice) :
    informationalCount (ns ++ ns') = informationalCount ns + informationalCount ns' := by
  simp [informationalCount]

theorem Beside.map (h : Beside q base base' x y) (K : State → State)
    (keeps : ∀ u : State, K { x with txq := q, counters := u.counters, notices := u.notices } =
      { K x with txq := q, counters := u.counters, notices := u.notices })
    (counters : (K x).counters = x.counters) (notices : (K x).notices = x.notices) : Beside q base base' (K x) (K y) := by
  obtain ⟨state, split, counts⟩ := h
  have image : K y = { K x with
      txq := q, counters := { x.counters with noReplies := oneMore x.counters.noReplies }, notices := y.notices } := by
    conv_lhs => rw [state]
    exact keeps { x with counters := { x.counters with noReplies := oneMore x.counters.noReplies }, notices := y.notices }
  refine ⟨?_, ?_, ?_⟩
  · rw [image, counters]
  · rw [image, notices]
    exact split
  · rw [image, notices]
    exact counts

theorem Beside.offer (h : Beside q base base' x y) {n : Notice} (monitors : n.isMonitors) :
    Beside q base base' (offerNotice n x) (offerNotice n y) := by
  obtain ⟨state, ⟨after, before, now, others⟩, counts⟩ := h
  unfold offerNotice
  rw [counts]
  by_cases room : (n.kind.isCompletion || decide (informationalCount x.notices < Config.informationalLimit)) = true
  · rw [if_pos room, if_pos room]
    refine ⟨?_, ⟨after ++ [n], ?_, ?_, ?_⟩, ?_⟩
    · conv_lhs => rw [state]
    · simp [before]
    · simp [now]
    · intro m hm
      rcases List.mem_append.1 hm with old | new
      · exact others m old
      · rw [List.mem_singleton.1 new]
        exact monitors
    · simp only [informationalCount_append, counts]
  · rw [if_neg room, if_neg room]
    refine ⟨?_, ⟨after, before, now, others⟩, counts⟩
    conv_lhs => rw [state]

theorem Beside.judgeFill (h : Beside q base base' x y) : Beside q base base' (judgeFill x) (judgeFill y) := by
  have cgm : y.cgm = x.cgm := by rw [h.state]
  have rxp : y.rxp = x.rxp := by rw [h.state]
  have stc : y.stc = x.stc := by rw [h.state]
  have active : isActive y = isActive x := by rw [isActive, isActive, stc]
  have monitor : ∀ m : CongestionMonitor, Beside q base base' (setMonitor m x) (setMonitor m y) :=
    fun m => h.map (setMonitor m) (fun _ => rfl) rfl rfl
  unfold Machine.judgeFill
  rw [cgm, rxp, active, stc]
  split
  · split
    · exact (monitor _).offer (.inr rfl)
    · exact h
  · split
    · exact (monitor _).offer (.inl rfl)
    · exact h

theorem Beside.storeFrame (h : Beside q base base' x y) (broadcast : Bool) (f : GoodFrame) :
    Beside q base base' (storeFrame broadcast f x) (storeFrame broadcast f y) := by
  have stc : y.stc = x.stc := by rw [h.state]
  have rxp : y.rxp = x.rxp := by rw [h.state]
  unfold Machine.storeFrame
  rw [stc, rxp]
  exact (h.map (setPool (poolWith x.stc.config (recordFor x.stc.config broadcast f) x.rxp)) (fun _ => rfl) rfl rfl).judgeFill

/-- A count other than that of no-replies is raised. -/
theorem Beside.count (h : Beside q base base' x y) (raise : Counters → Counters)
    (keeps : ∀ (c : Counters) (n : Nat), raise { c with noReplies := n } = { raise c with noReplies := n })
    (same : ∀ c : Counters, (raise c).noReplies = c.noReplies) :
    Beside q base base' { x with counters := raise x.counters } { y with counters := raise y.counters } := by
  obtain ⟨state, split, counts⟩ := h
  have counters : y.counters = { x.counters with noReplies := oneMore x.counters.noReplies } := by rw [state]
  refine ⟨?_, split, counts⟩
  rw [counters, keeps, same]
  conv_lhs => rw [state]

theorem Beside.admitBroadcast (h : Beside q base base' x y) (f : GoodFrame) :
    Beside q base base' (admitBroadcast f x) (admitBroadcast f y) := by
  have stc : y.stc = x.stc := by rw [h.state]
  have rxp : y.rxp = x.rxp := by rw [h.state]
  have live : receives y = receives x := by rw [receives, receives, stc]
  have room : fits y.rxp f.payload.length = fits x.rxp f.payload.length := by rw [rxp]
  unfold Machine.admitBroadcast
  rw [live, room]
  split
  · split
    · exact h.storeFrame true f
    · exact h.count (fun c => { c with broadcastDrops := countUp c.broadcastDrops }) (fun _ _ => rfl) fun _ => rfl
  · exact h

theorem Beside.setLastReceived (h : Beside q base base' x y) (source seq : Byte) :
    Beside q base base' (setLastReceived source seq x) (setLastReceived source seq y) := by
  have stc : y.stc = x.stc := by rw [h.state]
  have ptb : y.ptb = x.ptb := by rw [h.state]
  unfold Machine.setLastReceived
  cases recordOf source with
  | none => exact h
  | some p =>
    have used : recordInUse y p = recordInUse x p := by rw [recordInUse, recordInUse, stc]
    dsimp only
    rw [used, ptb]
    split
    · exact h.map (setPeer p _) (fun _ => rfl) rfl rfl
    · exact h

theorem Beside.acceptUnicast (h : Beside q base base' x y) (f : GoodFrame) :
    Beside q base base' (acceptUnicast f x) (acceptUnicast f y) := by
  have stc : y.stc = x.stc := by rw [h.state]
  have rxp : y.rxp = x.rxp := by rw [h.state]
  have ptb : y.ptb = x.ptb := by rw [h.state]
  have forUs : isForUs f y = isForUs f x := by rw [isForUs, isForUs, ownByte, ownByte, receives, receives, stc]
  have received : lastReceivedOf y f.source = lastReceivedOf x f.source := by
    unfold lastReceivedOf recordInUse
    rw [stc, ptb]
  have decides : decision f y = decision f x := by rw [decision, decision, received, rxp]
  have applied : ∀ r, Beside q base base' (applyDecision f r x) (applyDecision f r y) := fun r => by
    cases r with
    | duplicate =>
      exact h.count (fun c => { c with duplicates := countUp c.duplicates }) (fun _ _ => rfl) fun _ => rfl
    | taken => exact (h.setLastReceived f.source f.seq).storeFrame false f
    | full => exact h
  unfold Machine.acceptUnicast
  rw [forUs, decides]
  split
  · have before := applied (decision f x)
    generalize applyDecision f (decision f x) x = x' at *
    generalize applyDecision f (decision f x) y = y' at *
    exact before.map (createReply f _) (fun u => by rw [createReply_eq, createReply_eq]) (by rw [createReply_eq])
      (by rw [createReply_eq])
  · exact h

end Sys2Proof.Machine

/-! PROOFS. The good frame that ends a reply wait (R63 to R65, R89, R90, R157, R171). -/

namespace Sys2Proof.Machine

variable {s t v : State} {f : GoodFrame} {w : ReplyWait} {e : Entry} {value : Byte}

/-! ### A good frame that is not the awaited answer (R89) -/

theorem setLastReceived_paused (source seq : Byte) (s : State) (p : Fin 32) :
    (setLastReceived source seq s).ptb.records[p].paused = s.ptb.records[p].paused := by
  unfold setLastReceived
  cases recordOf source with
  | none => rfl
  | some r =>
    dsimp only
    split
    · change (setRecord r _ s.ptb).records[p].paused = _
      rw [setRecord_get]
      by_cases same : p = r <;> simp [same]
    · rfl

theorem acceptUnicast_paused (f : GoodFrame) (s : State) (p : Fin 32) :
    (acceptUnicast f s).ptb.records[p].paused = s.ptb.records[p].paused := by
  unfold acceptUnicast
  split
  · have reply : ∀ r u, (createReply f r u).ptb = u.ptb := fun r u => by rw [createReply_eq]
    refine (congrArg (fun table => table.records[p].paused) (reply _ _)).trans ?_
    cases decision f s with
    | duplicate => rfl
    | taken =>
      change (storeFrame false f (setLastReceived f.source f.seq s)).ptb.records[p].paused = _
      have table : (storeFrame false f (setLastReceived f.source f.seq s)).ptb = (setLastReceived f.source f.seq s).ptb := by
        simp
      exact (congrArg (fun table => table.records[p].paused) table).trans (setLastReceived_paused _ _ _ _)
    | full => rfl
  · rfl

/-- What follows a reply wait in the event of a good frame: nothing, or the frame's acceptance (R79, R120). -/
structure AfterWait (g : State → State) : Prop where
  beside : ∀ {q base base' x y}, Beside q base base' x y → Beside q base base' (g x) (g y)
  queue : ∀ s, (g s).txq = s.txq
  station : ∀ s, (g s).stc = s.stc
  wait : ∀ s, (g s).rpu.wait = s.rpu.wait
  paused : ∀ s (p : Fin 32), (g s).ptb.records[p].paused = s.ptb.records[p].paused

theorem AfterWait.nothing : AfterWait fun s => s :=
  ⟨fun h => h, fun _ => rfl, fun _ => rfl, fun _ => rfl, fun _ _ => rfl⟩

theorem acceptUnicast_wait (f : GoodFrame) (s : State) : (acceptUnicast f s).rpu.wait = s.rpu.wait := by
  unfold acceptUnicast
  split
  · rw [createReply_eq]
    have applied : (applyDecision f (decision f s) s).rpu = s.rpu := by simp
    rw [applied]
    dsimp only
    split <;> rfl
  · rfl

theorem AfterWait.acceptance (f : GoodFrame) : AfterWait fun s => admitBroadcast f (acceptUnicast f s) := by
  refine ⟨fun h => (h.acceptUnicast f).admitBroadcast f, fun s => by simp, fun s => by simp, fun s => ?_, fun s p => ?_⟩
  · have rpu : (admitBroadcast f (acceptUnicast f s)).rpu = (acceptUnicast f s).rpu := by simp
    rw [rpu, acceptUnicast_wait]
  · have ptb : (admitBroadcast f (acceptUnicast f s)).ptb = (acceptUnicast f s).ptb := by simp
    rw [ptb, acceptUnicast_paused]

/-- The outcome of an attempt without reply, if the entry completes by it (R65, R75). -/
def withoutReply (s : State) (e : Entry) : Option EntryOutcome :=
  if s.stc.station = .leaving then some .failedWithdrawn
  else if s.stc.config.retryLimit ≤ e.attempts + 1 then some .failedNoReply else none

/-- The entry after an attempt without reply, the pauses being those of `t` (R65). -/
def afterNoReply (s t : State) (e : Entry) : Entry :=
  (withoutReply s e).elim (returned t { e with attempts := e.attempts + 1 }) fun o =>
    { e with attempts := e.attempts + 1, state := .complete o }

/-- The notice of an entry that completes by an attempt without reply (R171). -/
def noReplyNotices (s : State) (h : Fin 16) (e : Entry) : List Notice :=
  ((withoutReply s e).map (completionNotice h)).toList

/-- A wait that ends without reply, beside the state in which there was none. -/
theorem endWait_beside (entry : v.txq.entries[w.handle] = some e) (awaiting : e.state = .awaitingReply) :
    Beside { setSlot w.handle (some (afterNoReply v v e)) v.txq with current := none } v.notices
      (v.notices ++ noReplyNotices v w.handle e) { v with rpu := { v.rpu with wait := none } } (endWait w .noReply v) := by
  rw [endWait_noReply entry awaiting]
  unfold afterNoReply noReplyNotices withoutReply
  by_cases leaving : v.stc.station = .leaving
  · rw [failAttempt_leaving _ _ _ (by exact leaving)]
    simp only [if_pos leaving, Option.elim, Option.map_some, Option.toList]
    exact ⟨rfl, ⟨[], by simp, by simp [noReplyTaken, completionNotice], by simp⟩,
      by simp [noReplyTaken, informationalCount, NoticeKind.isCompletion]⟩
  · rw [failAttempt_elsewhere _ _ _ _ _ (by exact leaving)]
    simp only [if_neg leaving]
    by_cases limited : v.stc.config.retryLimit ≤ e.attempts + 1
    · have limited' : (noReplyTaken v).stc.config.retryLimit ≤ e.attempts + 1 := limited
      simp only [if_pos limited, Option.elim, Option.map_some, Option.toList]
      exact ⟨rfl, ⟨[], by simp, by simp [noReplyTaken, completionNotice], by simp⟩,
        by simp [noReplyTaken, informationalCount, NoticeKind.isCompletion, completionNotice]⟩
    · simp only [if_neg limited, Option.elim, Option.map_none, Option.toList]
      exact ⟨rfl, ⟨[], by simp, by simp [noReplyTaken], by simp⟩, rfl⟩

theorem waitingState_congr (h : ∀ p : Fin 32, t.ptb.records[p].paused = s.ptb.records[p].paused) (d : Byte) :
    waitingState t d = waitingState s d := by
  rw [← waitingState_eq, ← waitingState_eq, destPaused_congr h]

/-- ATTN settles alike whatever it stood at, LEAVE's completion before it or not. -/
theorem settleAttn_leaveCompletion (b : Bool) (s : State) :
    settleAttn (leaveCompletion { s with hpt := { s.hpt with attn := b } }) = settleAttn (leaveCompletion s) := by
  have commutes : leaveCompletion { s with hpt := { s.hpt with attn := b } } =
      withLine s.lif { s.hpt with attn := b } s.counters.collisions (leaveCompletion s) :=
    leaveCompletion_ignores s.lif { s.hpt with attn := b } s.counters.collisions s
  obtain ⟨line, port, collisions⟩ := leaveCompletion_ignores.keeps s
  rw [commutes, ← line, ← port, ← collisions]
  rfl

/-- A wait that a good frame ends without reply: all that the frame does with no wait, and besides it the end of the attempt
(R65, R75, R89, R157, R171). -/
theorem wait_endsBeside {C g : State → State} (claims : Besides C) (after : AfterWait g) (wait : s.rpu.wait = some w)
    (entry : s.txq.entries[w.handle] = some e) (awaiting : e.state = .awaitingReply) {r : State}
    (without : r = settleAttn (g (C { s with rpu := { s.rpu with wait := none } }))) :
    ∃ m u : State, settleAttn (afterWait (C s) (g (endWait w .noReply (C s)))) = settleAttn u ∧
      m = { r with
        counters := { r.counters with noReplies := oneMore r.counters.noReplies },
        txq := { setSlot w.handle (some (afterNoReply s r e)) r.txq with current := none }, notices := m.notices } ∧
      (withoutReply s e = none → m.notices = r.notices) ∧
      (∀ o, withoutReply s e = some o → NoticeAdded (completionNotice w.handle o) s r m) ∧
      if s.stc.station = .leaving then Leaves m u else u = m := by
  obtain ⟨ns, noticed, others⟩ := claims.notices s
  have leaving := claims.leaving s
  have outcome : withoutReply (C s) e = withoutReply s e := by simp only [withoutReply, claims.config s, leaving]
  have wait' : (C s).rpu.wait = some w := by rw [claims.rpu, wait]
  have entry' := claims.awaiting s _ e entry awaiting
  have quiet : C { s with rpu := { s.rpu with wait := none } } = withReply { (C s).rpu with wait := none } (C s) := by
    rw [claims.rpu]
    exact claims.commutes { s.rpu with wait := none } s
  rw [quiet] at without
  generalize C s = v at *
  have beside := after.beside (endWait_beside entry' awaiting)
  have gone : (g (endWait w .noReply v)).rpu.wait = none := by rw [after.wait, endWait_wait]
  have station : (g (endWait w .noReply v)).stc = v.stc := by rw [after.station]; simp
  have queue : (g { v with rpu := { v.rpu with wait := none } }).txq = v.txq := after.queue _
  have paused := after.paused { v with rpu := { v.rpu with wait := none } }
  have ended : afterWait v (g (endWait w .noReply v)) = attemptEnded (g (endWait w .noReply v)) := by
    refine if_pos ?_
    rw [wait', gone]
    rfl
  rw [ended]
  rw [show withReply { v.rpu with wait := none } v = { v with rpu := { v.rpu with wait := none } } from rfl] at without
  generalize g { v with rpu := { v.rpu with wait := none } } = x at *
  generalize g (endWait w .noReply v) = y at *
  have back : afterNoReply v v e = afterNoReply s r e := by
    unfold afterNoReply returned
    rw [outcome, waitingState_congr (s := v) (t := r) (fun p => by rw [without]; exact paused p)]
  obtain ⟨state, ⟨tail, before, now, monitors⟩, -⟩ := beside
  rw [back] at state
  have middle : y.notices = s.notices ++ (ns ++ (noReplyNotices s w.handle e ++ tail)) := by
    rw [now, noticed, noReplyNotices, outcome, ← noReplyNotices]
    simp only [List.append_assoc]
  have first : x.notices = s.notices ++ (ns ++ tail) := by
    rw [before, noticed]
    simp only [List.append_assoc]
  have same : ({ r with
      counters := { r.counters with noReplies := oneMore r.counters.noReplies },
      txq := { setSlot w.handle (some (afterNoReply s r e)) r.txq with current := none }, notices := y.notices } : State) =
      { y with hpt := { y.hpt with attn := attnLevel x } } := by
    rw [state, without, ← queue]
    rfl
  refine ⟨{ y with hpt := { y.hpt with attn := attnLevel x } },
    if s.stc.station = .leaving then leaveCompletion { y with hpt := { y.hpt with attn := attnLevel x } }
    else { y with hpt := { y.hpt with attn := attnLevel x } }, ?_, same.symm, fun none => ?_, fun o some => ?_, ?_⟩
  · by_cases stays : s.stc.station = .leaving
    · rw [if_pos stays, settleAttn_leaveCompletion, attemptEnded_leaving (by rw [station]; exact leaving.2 stays)]
    · rw [if_neg stays, attemptEnded_elsewhere (by rw [station]; exact mt leaving.1 stays)]
      rfl
  · rw [without]
    change y.notices = x.notices
    rw [middle, first, noReplyNotices, none]
    simp
  · refine ⟨ns, tail, by rw [without]; exact first, ?_, others, monitors⟩
    change y.notices = _
    rw [middle, noReplyNotices, some]
    simp
  · by_cases stays : s.stc.station = .leaving
    · rw [if_pos stays, if_pos stays]
      exact leaveCompletion_leaves _
    · rw [if_neg stays, if_neg stays]

/-! ### The awaited answer (R63, R64, R89, R90) -/

theorem judgeReply_eq (kind : f.kind = .ack) (w : ReplyWait) (s : State) : judgeReply w f s =
    if f.dest = byteOf s.stc.config.ownNumber ∧ f.source = w.dest ∧ f.seq = w.seq then
      if f.modifier = 1 then .taken else if f.modifier = 2 then .duplicate else if f.modifier = 3 then .full else .noReply
    else .noReply := by
  unfold judgeReply
  by_cases answers : f.dest = byteOf s.stc.config.ownNumber ∧ f.source = w.dest ∧ f.seq = w.seq
  · rw [if_pos answers, if_pos]
    simp [answersWait, kind, ownByte, answers]
  · rw [if_neg answers, if_neg]
    intro same
    simp only [answersWait, Bool.and_eq_true, decide_eq_true_eq] at same
    exact answers ⟨same.1.1.2, same.1.2, same.2⟩

theorem judgeReply_other (h : f.kind ≠ .ack ∨ f.source ≠ w.dest) (s : State) : judgeReply w f s = .noReply := by
  refine if_neg fun answers => ?_
  simp only [answersWait, Bool.and_eq_true, decide_eq_true_eq] at answers
  exact h.elim (absurd answers.1.1.1) (absurd answers.1.2)

/-- The claims of an ACK from another station leave queue, station and Reply Unit as they are (R31, R99). -/
theorem sourceClaims_ack (kind : f.kind = .ack) (s : State) : (sourceClaims f s).txq = s.txq ∧
    (sourceClaims f s).stc = s.stc ∧ (sourceClaims f s).rpu = s.rpu := by
  have mismatch : handMismatch f s = s := by simp [handMismatch, mismatches, kind]
  have ladder : ladderFrame f s = s := by simp [ladderFrame, kind]
  rw [sourceClaims, mismatch, ladder]
  unfold presenceClaim
  split
  · split <;> simp
  · exact ⟨rfl, rfl, rfl⟩

theorem sourceClaims_paused (kind : f.kind = .ack) (s : State) (p : Fin 32) :
    (sourceClaims f s).ptb.records[p].paused = s.ptb.records[p].paused := by
  have mismatch : handMismatch f s = s := by simp [handMismatch, mismatches, kind]
  have ladder : ladderFrame f s = s := by simp [ladderFrame, kind]
  rw [sourceClaims, mismatch, ladder]
  unfold presenceClaim
  cases recordOf f.source with
  | none => rfl
  | some q =>
    dsimp only
    split
    · obtain ⟨state, -⟩ := refreshPresence_eq q s
      rw [state]
      dsimp only
      rw [setRecord_get]
      by_cases same : p = q <;> simp [same]
    · rfl

/-- An ACK at the reply wait: its claims, then the wait's outcome, and last the end of the attempt (R15, R89, R157). -/
theorem exec_ack (good : EndsGoodFrame value f s) (kind : f.kind = .ack) (notOwn : f.source ≠ byteOf s.stc.config.ownNumber)
    (wait : s.rpu.wait = some w) :
    ∃ v, v = sourceClaims f (heardGood (characterHeard true s)) ∧ exec (.characterComplete value true) s =
      .next (settleAttn (afterWait v (endWait w (judgeReply w f v) v))) := by
  have notData : f.kind ≠ .data := by rw [kind]; simp
  have run := exec_goodFrame_others good (.inr notOwn)
  have claims : peerFrame f (ladderFrame f (handMismatch f (heardGood (characterHeard true s)))) =
      sourceClaims f (heardGood (characterHeard true s)) := peerFrame_plain (.inr (.inl kind)) _
  have waits : (sourceClaims f (heardGood (characterHeard true s))).rpu.wait = some w :=
    (congrArg (·.wait) (sourceClaims_ack kind (heardGood (characterHeard true s))).2.2).trans wait
  refine ⟨_, rfl, ?_⟩
  rw [handOthers, claims, waitGood, waits] at run
  dsimp only at run
  rwa [acceptUnicast_other (.inl notData), admitBroadcast_other (.inl notData)] at run

end Sys2Proof.Machine

/-! PROOFS. The ACK that answers the entry awaited (R63, R64, R89, R90, R102), in LEAVING and elsewhere, and the good frame that
ends the wait beside its own claims. -/

namespace Sys2Proof.Machine

variable {s t v x : State} {f : GoodFrame} {w : ReplyWait} {e : Entry} {value : Byte} {p : Fin 32}

theorem afterWait_ends (wait : v.rpu.wait = some w) (o : ReplyOutcome) :
    afterWait v (endWait w o v) = attemptEnded (endWait w o v) := by
  refine if_pos ?_
  rw [wait, endWait_wait]
  rfl

/-! ### TAKEN and DUPLICATE (R63) -/

/-- The state `v` with the wait absent, its entry COMPLETE and the current frame cleared (R63, R90). -/
def waitAnswered (w : ReplyWait) (e : Entry) (o : EntryOutcome) (v : State) : State :=
  { v with
    rpu := { v.rpu with wait := none },
    txq := { setSlot w.handle (some { e with state := .complete o }) v.txq with current := none } }

theorem endWait_answered (entry : v.txq.entries[w.handle] = some e) (awaiting : e.state = .awaitingReply) :
    endWait w .taken v = { waitAnswered w e .sentTaken v with notices := v.notices ++ [completionNotice w.handle .sentTaken] } ∧
    endWait w .duplicate v =
      { waitAnswered w e .sentDuplicate v with notices := v.notices ++ [completionNotice w.handle .sentDuplicate] } := by
  unfold endWait replyOutcome
  dsimp only
  simp only [entry, awaiting, if_true, completeEntry_eq]
  exact ⟨rfl, rfl⟩

/-! ### FULL (R64, R102) -/

/-- The destination paused, the wait absent and the current frame cleared (R64, R90). -/
def fullTaken (p : Fin 32) (v : State) : State :=
  setCurrent none (pausePeer p .fullReply { v with rpu := { v.rpu with wait := none } })

theorem endWait_full (entry : v.txq.entries[w.handle] = some e) (awaiting : e.state = .awaitingReply)
    (dest : w.dest = byteOf p.val) (taken : claimsTaken v p = true) :
    endWait w .full v = failAttempt w.handle e none (fullTaken p v) := by
  have taken' : claimsTaken { v with rpu := { v.rpu with wait := none } } p = true := taken
  have entry' := (pausePeer_besides p .fullReply).awaiting { v with rpu := { v.rpu with wait := none } } _ e entry awaiting
  unfold endWait
  dsimp only
  rw [peerFull, dest, recordOf_byteOf]
  dsimp only
  rw [if_pos taken', replyOutcome, entry']
  exact if_pos awaiting

/-- What FULL leaves of record, entries and notices (R64, R67, R102). -/
theorem fullTaken_pauses (p : Fin 32) (v : State) :
    fullTaken p v = { v with
      rpu := { v.rpu with wait := none },
      ptb := setRecord p { v.ptb.records[p] with paused := true, pauseTimer := some v.stc.config.pauseHold } v.ptb,
      txq := { v.txq with entries := (fullTaken p v).txq.entries, current := none },
      notices := (fullTaken p v).notices, counters := (fullTaken p v).counters } ∧
    (∀ h : Fin 16, (fullTaken p v).txq.entries[h] =
      if v.ptb.records[p].paused = true then v.txq.entries[h] else (v.txq.entries[h]).map (heldBy p)) ∧
    if v.ptb.records[p].paused = true then NothingReported v (fullTaken p v)
    else NoticeOffered { kind := .peerPaused, subject := byteOf p.val, detail := 2 } v (fullTaken p v) := by
  obtain ⟨state, report⟩ := pausePeer_eq p .fullReply { v with rpu := { v.rpu with wait := none } }
  unfold fullTaken
  dsimp only at report
  generalize pausePeer p .fullReply { v with rpu := { v.rpu with wait := none } } = u at *
  refine ⟨?_, fun h => ?_, ?_⟩
  · conv_lhs => rw [state]
    rfl
  · by_cases paused : v.ptb.records[p].paused = true
    · rw [if_pos paused] at report ⊢
      exact congrArg (fun queue => queue.entries[h]) report.1
    · rw [if_neg paused] at report ⊢
      exact report.1 h
  · by_cases paused : v.ptb.records[p].paused = true
    · rw [if_pos paused] at report ⊢
      exact report.2
    · rw [if_neg paused] at report ⊢
      exact report.2

theorem fullTaken_paused (p : Fin 32) (v : State) : (fullTaken p v).ptb.records[p].paused = true := by
  rw [(fullTaken_pauses p v).1]
  dsimp only
  rw [setRecord_get, if_pos rfl]

/-- FULL in LEAVING: the entry is withdrawn, and LEAVE completes (R64, R75, R157, R158). -/
theorem full_leaving (leaving : v.stc.station = .leaving) :
    ∃ x : State,
      x = { v with
        rpu := { v.rpu with wait := none }, txq := { v.txq with entries := x.txq.entries, current := none },
        notices := x.notices, counters := x.counters } ∧
      x.txq.entries = (setSlot w.handle (some { e with state := .complete .failedWithdrawn }) (fullTaken p v).txq).entries ∧
      x.notices = (fullTaken p v).notices ∧ x.counters = (fullTaken p v).counters ∧
      LeavesAfter { kind := .failed, subject := byteOf w.handle.val, detail := 3 } x
        (attemptEnded (failAttempt w.handle e none (fullTaken p v))) := by
  obtain ⟨state, -, -⟩ := fullTaken_pauses p v
  have station : (fullTaken p v).stc.station = .leaving := by rw [state]; exact leaving
  have leaves := leaveCompletion_leaves (failAttempt w.handle e none (fullTaken p v))
  rw [attemptEnded_leaving (by simpa using station)]
  generalize leaveCompletion (failAttempt w.handle e none (fullTaken p v)) = u at *
  rw [failAttempt_leaving _ _ _ station] at leaves
  generalize fullTaken p v = y at *
  refine ⟨{ v with
    rpu := { v.rpu with wait := none },
    txq := { v.txq with
      entries := (setSlot w.handle (some { e with state := .complete .failedWithdrawn }) y.txq).entries, current := none },
    notices := y.notices, counters := y.counters }, rfl, rfl, rfl, rfl, ?_, leaves.2⟩
  obtain ⟨ends, -⟩ := leaves
  rw [ends, state]
  rfl

/-- FULL elsewhere: the entry returns to HELD with its counts (R64). -/
theorem full_elsewhere (elsewhere : v.stc.station ≠ .leaving) (dest : e.dest = byteOf p.val) :
    attemptEnded (failAttempt w.handle e none (fullTaken p v)) =
      { fullTaken p v with txq := setSlot w.handle (some { e with state := .held }) (fullTaken p v).txq } := by
  have station : (fullTaken p v).stc.station ≠ .leaving := by rw [(fullTaken_pauses p v).1]; exact elsewhere
  have held : waitingState (fullTaken p v) e.dest = .held := if_pos ⟨p, dest, fullTaken_paused p v⟩
  rw [attemptEnded_elsewhere (by simpa using station), failAttempt, if_neg station]
  dsimp only
  rw [returnEntry_eq, returned, held]

/-! ### Every answer -/

/-- The end of the wait that a TAKEN or DUPLICATE answers, in LEAVING and elsewhere (R63, R75, R157, R158). -/
theorem waitAnswered_ends {o : ReplyOutcome} {n : Notice} (wait : v.rpu.wait = some w)
    (ended : endWait w o v = { x with notices := x.notices ++ [n] }) (station : x.stc = v.stc) :
    if v.stc.station = .leaving then LeavesAfter n x (afterWait v (endWait w o v))
    else afterWait v (endWait w o v) = { x with notices := x.notices ++ [n] } := by
  rw [afterWait_ends wait, ended]
  split
  · next leaving =>
    rw [attemptEnded_leaving (by rw [station]; exact leaving)]
    exact leaveCompletion_leaves _
  · next elsewhere => exact attemptEnded_elsewhere (by rw [station]; exact elsewhere)

/-! ### Every answer -/

theorem judged_noReply {P : Prop} [Decidable P] {m : Nat} (other : ¬ (P ∧ 1 ≤ m ∧ m ≤ 3)) :
    (if P then if m = 1 then ReplyOutcome.taken else if m = 2 then .duplicate else if m = 3 then .full else .noReply
      else .noReply : ReplyOutcome) = .noReply := by
  by_cases answers : P
  · have outside : m ≠ 1 ∧ m ≠ 2 ∧ m ≠ 3 := by
      refine ⟨fun h => ?_, fun h => ?_, fun h => ?_⟩ <;> exact other ⟨answers, by omega, by omega⟩
    simp [answers, outside]
  · exact if_neg answers

theorem judged_full {P : Prop} [Decidable P] {m : Nat} (answers : P) (three : m = 3) :
    (if P then if m = 1 then ReplyOutcome.taken else if m = 2 then .duplicate else if m = 3 then .full else .noReply
      else .noReply : ReplyOutcome) = .full := by
  subst three
  exact if_pos answers

/-- The notice of an entry that completes without reply (R171). -/
theorem noReplyNotice_eq {o : EntryOutcome} (outcome : withoutReply s e = some o) : completionNotice w.handle o =
    { kind := .failed, subject := byteOf w.handle.val, detail := if s.stc.station = .leaving then 3 else 1 } := by
  unfold withoutReply at outcome
  split at outcome
  · next leaving =>
    cases outcome
    rw [if_pos leaving]
    rfl
  · next elsewhere =>
    split at outcome <;> cases outcome
    rw [if_neg elsewhere]
    rfl

/-- What a good frame that is not the awaited answer does in the state `s`, claims and acceptance apart (R15, R89). -/
theorem exec_beside {C g : State → State} (claims : Besides C)
    (runs : ∀ s' : State, s'.stc = s.stc → EndsGoodFrame value f s' → exec (.characterComplete value true) s' =
      .next (settleAttn (afterWait (C (heardGood (characterHeard true s')))
        (g (waitGood f (C (heardGood (characterHeard true s'))))))))
    (good : EndsGoodFrame value f s) (wait : s.rpu.wait = some w) (other : f.kind ≠ .ack ∨ f.source ≠ w.dest) :
    exec (.characterComplete value true) { s with rpu := { s.rpu with wait := none } } =
      .next (settleAttn (g (C (heardGood (characterHeard true { s with rpu := { s.rpu with wait := none } }))))) ∧
    exec (.characterComplete value true) s =
      .next (settleAttn (afterWait (C (heardGood (characterHeard true s)))
        (g (endWait w .noReply (C (heardGood (characterHeard true s))))))) := by
  refine ⟨?_, ?_⟩
  · have quiet : (C (heardGood (characterHeard true { s with rpu := { s.rpu with wait := none } }))).rpu.wait = none := by
      rw [claims.rpu]
      rfl
    rw [runs { s with rpu := { s.rpu with wait := none } } rfl good, afterWait_quiet quiet, waitGood_quiet quiet]
  · have waits : (C (heardGood (characterHeard true s))).rpu.wait = some w := by
      rw [claims.rpu]
      exact wait
    rw [runs s rfl good, waitGood, waits]
    dsimp only
    rw [judgeReply_other other]

/-- The clash of numbers as claims beside the wait (R15, R31). -/
theorem handClash_eq (f : GoodFrame) (s : State) :
    handClash f s = afterWait (clashClaims f s) (waitGood f (clashClaims f s)) := by
  unfold handClash clashClaims
  by_cases ack : f.kind = .ack
  · simp only [ack, if_true]
  · have config : (offerNotice (sourceNotice .numberClash f) s).stc = s.stc := by simp
    simp only [ack, if_false, config]

/-- A good frame that ends a wait without reply is its claims and its acceptance, beside the wait (R15, R89). -/
theorem besideWait (good : EndsGoodFrame value f s) (wait : s.rpu.wait = some w)
    (unanswered : f.kind ≠ .ack ∨
      (s.stc.station ≠ .unjoined ∧ f.source = byteOf s.stc.config.ownNumber ∧ w.dest ≠ f.source)) :
    ∃ C g : State → State, Besides C ∧ AfterWait g ∧
      exec (.characterComplete value true) { s with rpu := { s.rpu with wait := none } } =
        .next (settleAttn (g (C (heardGood (characterHeard true { s with rpu := { s.rpu with wait := none } }))))) ∧
      exec (.characterComplete value true) s =
        .next (settleAttn (afterWait (C (heardGood (characterHeard true s)))
          (g (endWait w .noReply (C (heardGood (characterHeard true s))))))) := by
  have other : f.kind ≠ .ack ∨ f.source ≠ w.dest := unanswered.imp_right fun ⟨_, _, h⟩ => h.symm
  by_cases own : s.stc.station ≠ .unjoined ∧ f.source = byteOf s.stc.config.ownNumber
  · refine ⟨clashClaims f, fun s => s, clashClaims_besides f, .nothing,
      exec_beside (g := fun s => s) (clashClaims_besides f) (fun s' station good' => ?_) good wait other⟩
    rw [exec_goodFrame_clash good' (by rw [station]; exact own.1) (by rw [station]; exact own.2), handClash_eq]
  · refine ⟨frameClaims f, fun s => admitBroadcast f (acceptUnicast f s), frameClaims_besides f, .acceptance f,
      exec_beside (g := fun s => admitBroadcast f (acceptUnicast f s)) (frameClaims_besides f) (fun s' station good' => ?_) good
        wait other⟩
    refine exec_goodFrame_others good' ?_
    rw [station]
    by_cases joins : s.stc.station = .unjoined
    · exact .inl joins
    · exact .inr fun h => own ⟨joins, h⟩

/-- Settles O33: the ACK's claims and then its result; any other good frame beside the end of the wait. -/
theorem ackEndsReplyWait : Obligations.AckEndsReplyWait := by
  refine ⟨fun s value f w e p good wait entry awaiting same joins kind dest below other small notOwn => ?_,
    fun s value f w e good wait entry awaiting unanswered => ?_⟩
  · obtain ⟨v, claims, run⟩ := exec_ack good kind notOwn wait
    have heard : HeardFrom f (characterHeard true s) v := claims ▸ heardFrom_sourceClaims (.inr notOwn)
    obtain ⟨queue, station, reply⟩ := sourceClaims_ack kind (heardGood (characterHeard true s))
    have pauses := sourceClaims_paused kind (heardGood (characterHeard true s)) p
    rw [← claims] at queue station reply pauses
    have queue' : v.txq = s.txq := queue
    have station' : v.stc = s.stc := station
    have reply' : v.rpu = s.rpu := reply
    have pauses' : v.ptb.records[p].paused = s.ptb.records[p].paused := pauses
    clear queue station reply pauses claims
    have wait' : v.rpu.wait = some w := by rw [reply', wait]
    have entry' : v.txq.entries[w.handle] = some e := by rw [queue', entry]
    have taken : claimsTaken v p = true := claimsTaken_iff.2 (by rw [station']; exact ⟨joins, below, other⟩)
    have full := endWait_full entry' awaiting dest taken
    obtain ⟨pausesIt, entries, report⟩ := fullTaken_pauses p v
    rw [queue', pauses'] at entries
    rw [pauses'] at report
    rw [judgeReply_eq kind, station'] at run
    refine ⟨v, _, heard, run, ?_⟩
    intro answers completed sent
    refine ⟨fun answer result => ?_, fun answer result leaving => ?_, fun answer result elsewhere => ?_, fun none => ?_⟩
    · obtain ⟨takenEnds, duplicateEnds⟩ := endWait_answered entry' awaiting
      rw [if_pos (show f.dest = byteOf s.stc.config.ownNumber ∧ _ from answer), ← station']
      by_cases first : f.modifier = 1
      · have ends := waitAnswered_ends wait' takenEnds rfl
        simp only [completed, sent, first, if_true]
        exact ends
      · have second := result.resolve_left first
        have ends := waitAnswered_ends wait' duplicateEnds rfl
        rw [if_neg first, if_pos second]
        simp only [completed, sent, if_neg first]
        exact ends
    · obtain ⟨x, state, entriesOf, noticesOf, countersOf, leaves⟩ :=
        full_leaving (w := w) (e := e) (p := p) (by rw [station']; exact leaving)
      rw [afterWait_ends wait', judged_full answer result, full]
      refine ⟨x, state, ?_, fun h elsewhere => ?_, ?_, leaves⟩
      · rw [entriesOf, setSlot_get, if_pos rfl]
      · rw [entriesOf, setSlot_get, if_neg elsewhere, entries]
      · rw [NothingReported, NoticeOffered, noticesOf, countersOf]
        exact report
    · have returns := full_elsewhere (w := w) (e := e) (p := p) (by rw [station']; exact elsewhere) (same.trans dest)
      rw [afterWait_ends wait', judged_full answer result, full, returns]
      refine ⟨?_, ?_, fun h elsewhere => ?_, report⟩
      · rw [← station']
        conv_lhs => rw [pausesIt]
        rfl
      · rw [setSlot_get, if_pos rfl]
      · rw [setSlot_get, if_neg elsewhere, entries]
    · rw [judged_noReply (show ¬ ((f.dest = byteOf s.stc.config.ownNumber ∧ _) ∧ _) from none)]
      exact afterWait_noReply wait' entry' awaiting
  · obtain ⟨C, g, claims, after, without, run⟩ := besideWait good wait unanswered
    obtain ⟨m, u, ended, rest, quiet, noticed, leaves⟩ :=
      wait_endsBeside (s := heardGood (characterHeard true s)) claims after wait entry awaiting rfl
    refine ⟨_, m, u, without, run.trans (congrArg Host.Outcome.next ended), rest, quiet, fun some => ?_, leaves⟩
    obtain ⟨o, outcome⟩ := Option.ne_none_iff_exists'.1 some
    have added := noticed o outcome
    rw [noReplyNotice_eq outcome] at added
    exact added

end Sys2Proof.Machine
